-- ==== Sys2Proof/Word.lean ====
section
/-! DEFINITION. The words and the small vocabularies of M5TX: containers, channels, symbols, line
levels, agents. Bit 0 is the least significant bit everywhere (00_scope.md section 7, D17). -/

namespace Sys2Proof

/-- A slot container, a transmit word, a command word: 32 bits (R6 CONTAINER_BITS, R80). -/
abbrev Word := BitVec 32

/-- One colour channel, "independent 0–255 intensity" (R6 CHAN_BITS, R21). -/
abbrev Chan := BitVec 8

/-- The two symbols the wire carries (R88): `s0` for a bit of value 0, `s1` for a bit of value 1. -/
inductive Symbol where
  | s0
  | s1
  deriving DecidableEq, Repr, Inhabited

/-- An electrical level of the output line (R30). -/
inductive Level where
  | low
  | high
  deriving DecidableEq, Repr, Inhabited

/-- The two agents inside M5TX that take steps (R8): the command processor and the serialiser. -/
inductive Agent where
  | cp
  | ser
  deriving DecidableEq, Repr, Inhabited

end Sys2Proof
end

