-- ==== Sys2Proof/Syntax.lean ====
section
/-! DEFINITION. The command-level instruction type of R85: one constructor per row of
spec/opcode_table.json. -/

namespace Sys2Proof

/-- The abstract command (R5, R85): "one of `INIT`, `CLEAR`, `SET_PIXEL(x, y, r, g, b)` with x, y
integers and r, g, b in 0 to 255, `RENDER`". -/
inductive Instr where
  /-- INIT (R180): one-time configuration of the transmitter. -/
  | init
  /-- CLEAR (R121): zero all 25 slots. -/
  | clear
  /-- SET_PIXEL x, y, r, g, b (R122): stage one pixel; x the column, y the row, any integers. -/
  | setPixel (x y : Int) (r g b : Chan)
  /-- RENDER (R140): flush the buffer to the transmit queue. -/
  | render
  deriving DecidableEq, Repr

end Sys2Proof
end

