-- ==== Sys2Proof/WellFormed.lean ====
section
/-! DEFINITION. Which commands have a command word (R84): at the word level x and y are 3-bit
unsigned fields. A command that has none is still a command at the command level, where the
machine gives it its meaning; only `encode` and the assembler ask for this check (R91). -/

namespace Sys2Proof

/-- The coordinate fits the 3-bit field: 0 to 7 (R83, R84). -/
def coordFits (v : Int) : Bool := decide (0 ≤ v) && decide (v ≤ 7)

/-- The command can be spelled as a command word (R84, R85 "every command whose x and y lie in 0
to 7"). -/
def Instr.wellFormed : Instr → Bool
  | .init => true
  | .clear => true
  | .setPixel x y _ _ _ => coordFits x && coordFits y
  | .render => true

end Sys2Proof
end

