-- ==== Sys2Proof/Decode.lean ====
section
/-! DEFINITION. The command decoder of R85, total on all 2^32 words and rejecting none (R86), and
the encoder onto canonical words (R82, R83). Command words are presented whole on the 32-bit port
CMD (R80): there is no byte order to choose. -/

namespace Sys2Proof

/-- A 3-bit coordinate field at bit `lo`, read as an unsigned integer (R84). -/
def coordField (w : Word) (lo : Nat) : Int := ((w.extractLsb' lo 3).toNat : Int)

/-- An 8-bit channel field at bit `lo` (R84). -/
def chanField (w : Word) (lo : Nat) : Chan := w.extractLsb' lo 8

/-- The decoder (R81, R85): bits [31:30] alone select the command; bits [29:0] of a format-N word
are ignored (R82, R86, U16). -/
def decode (w : Word) : Instr :=
  match w.getLsbD 31, w.getLsbD 30 with
  | false, false => .init
  | false, true => .clear
  | true, false =>
    .setPixel (coordField w 27) (coordField w 24) (chanField w 16) (chanField w 8) (chanField w 0)
  | true, true => .render

/-- The encoder onto the canonical words of R82 and R83. Of a command that is not well formed it
gives the word with the low 3 bits of each coordinate, which is no encoding of that command. -/
def encode : Instr → Word
  | .init => 0x00000000#32
  | .clear => 0x40000000#32
  | .setPixel x y r g b => 0b10#2 ++ BitVec.ofInt 3 x ++ BitVec.ofInt 3 y ++ r ++ g ++ b
  | .render => 0xC0000000#32

/-- The instruction the decoder reads from a table word: bits numbered as the table numbers them,
bit 0 the least significant bit of CMD, the bits from `nbits` up zero. A number wider than the
port is no command word. -/
def decodeTableWord (nbits w : Nat) : Option Instr :=
  if nbits ≤ 32 then some (decode (BitVec.ofNat 32 (w % 2 ^ nbits))) else none

end Sys2Proof
end

