-- ==== Sys2Proof/Config.lean ====
section
/-! DEFINITION. The parameters M5 leaves to the implementation (R7, the table of open parameters at
the end of 92_eei_decisions.md). An OPEN parameter is a constant with no body: a claim proved of
the model holds for every value the spec allows it. The constants of R6 (5 columns, 5 rows, 25
slots, 24 colour bits, 8 padding bits) are no parameters and stand as numerals where they are
used. -/

namespace Sys2Proof

/-- CFG_RATE_NOMINAL, 800000 Hz (R7, R182, decision D12): the rate INIT passes. -/
def Config.rateNominal : Nat := 800000

/-- PIN, OPEN (R7, D13): the platform pin number INIT passes. -/
opaque Config.pin : Nat

/-- INVERT, OPEN (R7, D14): the inversion INIT passes. -/
opaque Config.invert : Bool

/-- IDLE_LEVEL, OPEN (R7, D18): the level of the line between symbols, before inversion. -/
opaque Config.idleLevel : Level

/-- QDEPTH less one, any natural number. -/
opaque Config.queueDepthPred : Nat

/-- QDEPTH, OPEN and at least 1 (R7, R27, D9): the capacity of the transmit queue. -/
def Config.queueDepth : Nat := Config.queueDepthPred + 1

/-- The values `configure_transmitter` may return, drawn at INIT under no law (R26, D15, U11): the
n-th draw of a run. DESIGN CHOICE: the opaque value is carried as a natural number (log 8). -/
opaque Config.freeProgOffset : Nat → Nat

/-- The schedule, OPEN (D28): the agent that the n-th unsettled turn belongs to (log 1). -/
opaque Config.freeSchedule : Nat → Agent

/-! ### The waveform times

TSYM, T0H and T1H are OPEN with `T0H ≠ T1H` and both below TSYM (R7, D11, U13). TSYM is a free
positive rational; T0H and T1H are built from it and from free naturals so that every pair of
rational times with these two properties is one of their values and no other pair is (log 9). -/

/-- Numerator of TSYM less one, free. -/
opaque Config.tSymNumPred : Nat

/-- Denominator of TSYM less one, free. -/
opaque Config.tSymDenPred : Nat

/-- TSYM in seconds, OPEN (R7, D11, U13): the period of a symbol on the line. It is a parameter
beside CFG_RATE; that the two need not meet R153's `TSYM = 1 / CFG_RATE` exactly is log 18. -/
def Config.tSym : ℚ := ((Config.tSymNumPred : ℚ) + 1) / ((Config.tSymDenPred : ℚ) + 1)

/-- Free: the share of the period taken by the narrower pulse. -/
opaque Config.narrowShare : Nat

/-- Free: what the wider pulse has over the narrower one, less one. -/
opaque Config.gapShare : Nat

/-- Free: what is left of the period after the wider pulse, less one. -/
opaque Config.restShare : Nat

/-- Free: whether the wider pulse is that of S1; M5 does not say which is (R88, N11). -/
opaque Config.oneIsWider : Bool

/-- The number of shares in one symbol period. -/
def Config.periodShares : Nat :=
  Config.narrowShare + (Config.gapShare + 1) + (Config.restShare + 1)

/-- `n` shares of the symbol period, in seconds. -/
def Config.shares (n : Nat) : ℚ := (n : ℚ) / (Config.periodShares : ℚ) * Config.tSym

/-- The narrower of the two pulse widths, in seconds. -/
def Config.narrowWidth : ℚ := Config.shares Config.narrowShare

/-- The wider of the two pulse widths, in seconds. -/
def Config.wideWidth : ℚ := Config.shares (Config.narrowShare + (Config.gapShare + 1))

/-- T0H, the pulse width of S0 in seconds (R152, D11). -/
def Config.t0h : ℚ := if Config.oneIsWider then Config.narrowWidth else Config.wideWidth

/-- T1H, the pulse width of S1 in seconds (R152, D11). -/
def Config.t1h : ℚ := if Config.oneIsWider then Config.wideWidth else Config.narrowWidth

/-- Numerator of TLATCH, free. -/
opaque Config.latchNum : Nat

/-- Denominator of TLATCH less one, free. -/
opaque Config.latchDenPred : Nat

/-- TLATCH in seconds, OPEN (R7, D16): the rest the LED string may need between frames. The spec
gives the block nothing to do with it, so no definition reads it (R239). -/
def Config.tLatch : ℚ := (Config.latchNum : ℚ) / ((Config.latchDenPred : ℚ) + 1)

end Sys2Proof
end

