-- ==== Sys2Proof/Machine/State.lean ====
section
/-! DEFINITION. The state of M5TX (10_state.md): every piece of state the spec lists, as plain data,
and, marked as the model's own, the record of the line's pulses and the inputs from outside (the
host's commands, the schedule) with the counters of the free values. Also the reasons a step can
stop, and the state after reset (R35). -/

namespace Sys2Proof.Machine

/-- CPST (R28): whether the command processor is between commands or inside a RENDER. -/
inductive CpState where
  | idle
  | rendering
  deriving DecidableEq, Repr

/-- DOUT (R30): the output line. After reset it is undriven, its level unspecified (R30, R231);
INIT makes it driven (R180, R181). -/
inductive Line where
  | undriven
  | driven (level : Level)
  deriving DecidableEq, Repr

/-- Which of the two pulse widths a pulse has (R152). -/
inductive PulseWidth where
  | t0h
  | t1h
  deriving DecidableEq, Repr

/-- One pulse of the line coder on DOUT (R152, R153): on pin `pin` the line leaves its rest level
for `active`, stays there for the time `width` names and is at rest for what is left of the symbol
period TSYM; `rate` is CFG_RATE as it was, the nominal symbol rate. -/
structure Pulse where
  pin : Nat
  active : Level
  width : PulseWidth
  rate : Nat
  deriving DecidableEq, Repr

/-- One command the host has still to issue: a command word for the port CMD (word level, R80), or
an abstract command (command level, R5, R85), which can carry coordinates no word can spell (R84). -/
inductive HostItem where
  | word (w : Word)
  | command (i : Instr)
  deriving DecidableEq, Repr

/-- Why the machine stops with a fault: the three sequences M5 calls undefined behaviour, and
nothing else (R206). Each is safe: the hardware tests nothing and goes on, the model stops and
gives the command no meaning. -/
inductive Fault where
  /-- U1: INIT when INITED = 1 (R184). Raised by the meaning of INIT. Safe. -/
  | initTwice
  /-- U2: SET_PIXEL when INITED = 0, whatever its operands (R125). Raised by the meaning of
  SET_PIXEL. Safe. -/
  | setPixelBeforeInit
  /-- U3: RENDER when INITED = 0 (R148). Raised by the meaning of RENDER. Safe. -/
  | renderBeforeInit
  deriving DecidableEq, Repr

/-- Why the model refuses. -/
inductive Refusal where
  /-- An instruction of the table without a meaning; no arm of `exec` answers it. Safe. -/
  | notModelled (mnemonic : String)
  /-- A command put to the command processor while CMD_READY = 0 (R33, R214, U17 "refuse: no move
  in the model"). Raised by every meaning when CPST = RENDERING; `step` never raises it, since
  there the host waits. Safe. -/
  | commandNotReady
  deriving DecidableEq, Repr

/-- The state of M5TX. The first fourteen fields are the spec's (R35), the rest the model's own. -/
structure State where
  /-- PB (R20 to R23): slot i is the i-th LED on the wire; `{0x00, g, r, b}`. -/
  pb : Vector Word 25
  /-- INITED (R24). -/
  inited : Bool
  /-- CFG_PIN (R25). -/
  cfgPin : Nat
  /-- CFG_RATE in Hz (R25). -/
  cfgRate : Nat
  /-- CFG_INVERT (R25). -/
  cfgInvert : Bool
  /-- PROG_OFFSET (R26): opaque, read by no rule. -/
  progOffset : Nat
  /-- TXQ (R27): first in, first out; the head leaves next, words enter at the end. -/
  txq : List Word
  /-- CPST (R28). -/
  cpst : CpState
  /-- RIDX (R28): the slot RENDER pushes next, 0 to 25. -/
  ridx : Nat
  /-- OSR (R29): the output shift register. -/
  osr : Word
  /-- BCNT (R29): bits of the current word still to send, 0 to 24. -/
  bcnt : Nat
  /-- WIRE (R29): the symbols emitted since reset, oldest first. -/
  wire : List Symbol
  /-- DOUT (R30): the line as it is between two steps. -/
  dout : Line
  /-- FAULT with its reason (R31): none is 0. Sticky; a state that has it is never final (R206).
  A step sets it by answering the outcome `fault` (log 5). -/
  fault : Option Fault
  /-- The model's own: the pulses put on DOUT since reset, oldest first (R152, log 9). -/
  pulses : List Pulse
  /-- The model's own, an input: the commands the host has still to issue, next first (log 2). -/
  hostq : List HostItem
  /-- The model's own, an input: turns of the schedule already settled, next first (log 1). -/
  sched : List Agent
  /-- The model's own: where the free schedule is read next (log 1). -/
  ticks : Nat
  /-- The model's own: where the free PROG_OFFSET is read next (log 8). -/
  draws : Nat
  deriving DecidableEq, Repr

/-- The machine right after reset (R35, R231). The registers R35 leaves unspecified (CFG_PIN,
CFG_RATE, CFG_INVERT, PROG_OFFSET, OSR) hold zero: DESIGN CHOICE (log 3). The line is undriven
(R231). The inputs are empty and the counters zero: DESIGN CHOICE (logs 1, 2, 8, 9). -/
def State.reset : State where
  pb := Vector.replicate 25 0#32
  inited := false
  cfgPin := 0
  cfgRate := 0
  cfgInvert := false
  progOffset := 0
  txq := []
  cpst := .idle
  ridx := 0
  osr := 0#32
  bcnt := 0
  wire := []
  dout := .undriven
  fault := none
  pulses := []
  hostq := []
  sched := []
  ticks := 0
  draws := 0

/-- What a step and a meaning answer. -/
abbrev Answer := Host.Outcome State Fault Refusal

end Sys2Proof.Machine
end

