-- ==== Sys2Proof/Machine/Flags.lean ====
section
/-! DEFINITION. M5TX has no status flags and no condition codes (R32). What it has instead are the
handshake signals of the command port (R33) and the enabling conditions of its steps (R141, R142,
R149, R150); they are computed here, all from State and none stored. -/

namespace Sys2Proof.Machine

/-- CMD_READY (R33): 1 exactly when CPST = IDLE. -/
def State.cmdReady (s : State) : Bool := s.cpst == .idle

/-- CMD_VALID (R33): the host presents a command. -/
def State.cmdValid (s : State) : Bool := !s.hostq.isEmpty

/-- CMD (R33): the command presented, while there is one. -/
def State.cmd? (s : State) : Option HostItem := s.hostq.head?

/-- TXQ has room for one more word (R27, R144). -/
def State.txqHasRoom (s : State) : Bool := decide (s.txq.length < Config.queueDepth)

/-- The push step of RENDER is enabled (R142). -/
def State.pushEnabled (s : State) : Bool :=
  s.cpst == .rendering && decide (s.ridx < 25) && s.txqHasRoom

/-- CP accepts a command (R33): VALID and READY are both 1. -/
def State.acceptEnabled (s : State) : Bool := s.cmdReady && s.cmdValid

/-- The shift step of SER is enabled (R150); SER has no step at all while INITED = 0 (R149). -/
def State.shiftEnabled (s : State) : Bool := s.inited && decide (0 < s.bcnt)

/-- The pull step of SER is enabled (R149). -/
def State.pullEnabled (s : State) : Bool :=
  s.inited && decide (s.bcnt = 0) && !s.txq.isEmpty

/-- CP has a step. -/
def State.cpEnabled (s : State) : Bool := s.acceptEnabled || s.pushEnabled

/-- SER has a step. -/
def State.serEnabled (s : State) : Bool := s.shiftEnabled || s.pullEnabled

end Sys2Proof.Machine
end

