-- ==== Sys2Proof/Machine/Operands.lean ====
section
/-! DEFINITION. Operands: the range check of SET_PIXEL (R123), the coordinate mapper (R100 to R106),
the GRB packer (R120), the transmit word (R145) and the symbol of a bit (R88). All combinational. -/

namespace Sys2Proof.Machine

/-- The range check on one coordinate (R123): in range iff `0 ≤ v ≤ 4`, as an integer. -/
def coord? (v : Int) : Option (Fin 5) :=
  if h : 0 ≤ v ∧ v ≤ 4 then some ⟨v.toNat, by omega⟩ else none

/-- The range check of SET_PIXEL (R123): both coordinates in range, or no address at all (R56). -/
def coords? (x y : Int) : Option (Fin 5 × Fin 5) :=
  match coord? x, coord? y with
  | some cx, some cy => some (cx, cy)
  | some _, none => none
  | none, some _ => none
  | none, none => none

/-- Row inversion (R101): `row' = 4 - y`. -/
def physicalRow (y : Fin 5) : Fin 5 := ⟨4 - y.val, by omega⟩

/-- The coordinate mapper (R102), a function on in-range coordinates only (R106, U4): even rows'
run with x, odd rows' against it. -/
def index (x y : Fin 5) : Fin 25 :=
  if (physicalRow y).val % 2 = 0 then ⟨(physicalRow y).val * 5 + x.val, by omega⟩
  else ⟨(physicalRow y).val * 5 + (4 - x.val), by omega⟩

/-- The GRB packer (R120): `(g << 16) | (r << 8) | b` on 32 bits. -/
def pack (r g b : Chan) : Word :=
  (g.setWidth 32 <<< 16) ||| (r.setWidth 32 <<< 8) ||| b.setWidth 32

/-- The transmit word of a slot value (R145): a 32-bit logical left shift by 8. -/
def transmitWord (v : Word) : Word := v <<< 8

/-- The symbol of a bit (R88). -/
def sym (bit : Bool) : Symbol := if bit then .s1 else .s0

end Sys2Proof.Machine
end

