-- ==== Sys2Proof/Machine/LineCoder.lean ====
section
/-! DEFINITION. The line coder (R152, R153): from a symbol and the configuration registers to one
pulse on DOUT, and the times of a pulse. -/

namespace Sys2Proof.Machine

/-- The other level. -/
def otherLevel : Level → Level
  | .low => .high
  | .high => .low

/-- A level of the line as seen through CFG_INVERT (R152): inversion exchanges the two levels of
DOUT and changes nothing else (D14). -/
def throughInvert (invert : Bool) (l : Level) : Level := if invert then otherLevel l else l

/-- The level DOUT rests at (R152, R181): IDLE_LEVEL seen through CFG_INVERT. -/
def restLevel (invert : Bool) : Level := throughInvert invert Config.idleLevel

/-- The level of a pulse: the one that is not the rest level (R152 "leaves IDLE_LEVEL"). -/
def activeLevel (invert : Bool) : Level := throughInvert invert (otherLevel Config.idleLevel)

/-- The width of a symbol's pulse (R152): T0H for S0, T1H for S1. -/
def pulseWidth : Symbol → PulseWidth
  | .s0 => .t0h
  | .s1 => .t1h

/-- The one pulse of a symbol, under given values of CFG_PIN, CFG_RATE, CFG_INVERT (R152, R153). -/
def pulseOf (pin rate : Nat) (invert : Bool) (x : Symbol) : Pulse where
  pin := pin
  active := activeLevel invert
  width := pulseWidth x
  rate := rate

/-- The time the line is at the active level, in seconds (R152). -/
def Pulse.activeTime (p : Pulse) : ℚ :=
  match p.width with
  | .t0h => Config.t0h
  | .t1h => Config.t1h

/-- The symbol period a rate stands for, in seconds (R153): `1 / CFG_RATE`. The period on the line
is the open parameter TSYM (R7), which may differ from it (log 18). -/
def symbolPeriod (rate : Nat) : ℚ := 1 / (rate : ℚ)

/-- The period R153 gives a pulse by the rate it was sent at. -/
def Pulse.nominalPeriod (p : Pulse) : ℚ := symbolPeriod p.rate

/-- The time the line is back at the rest level for the rest of the symbol period TSYM (R152). -/
def Pulse.restTime (p : Pulse) : ℚ := Config.tSym - p.activeTime

end Sys2Proof.Machine
end

