-- ==== Sys2Proof/Machine/Ops.lean ====
section
/-! DEFINITION. The named operations over the state that the meanings and the steps are made of:
pixel buffer, transmit queue, wire and line, configuration, the shared answer of undefined
behaviour, the readiness check, the reset event. -/

namespace Sys2Proof.Machine

/-! ### Pixel buffer (R20, R23, R55): every access is one whole slot -/

/-- `PB[i]`. -/
def State.slot (s : State) (i : Fin 25) : Word := s.pb[i]

/-- `PB[i] <- v`: all 32 bits, the old value replaced (R55, R122). -/
def State.writeSlot (s : State) (i : Fin 25) (v : Word) : State := { s with pb := s.pb.set i v }

/-- `PB[0]` to `PB[24]` all zero, in one step (R121, D20). -/
def State.clearSlots (s : State) : State := { s with pb := Vector.replicate 25 0#32 }

/-! ### Transmit queue (R27, R61) -/

/-- `TXQ.push(w)`: the word enters at the tail, by value. -/
def State.enqueue (s : State) (w : Word) : State := { s with txq := s.txq ++ [w] }

/-- `transmit_blocking(w)` (R144): `none` while it waits for room, there being no timeout and no
cancellation. -/
def State.transmitBlocking (s : State) (w : Word) : Option State :=
  if s.txqHasRoom then some (s.enqueue w) else none

/-- `TXQ.pop()` into OSR with BCNT ← 24 (R149): the word `w` is the head of the queue and `rest`
what stays in it. -/
def State.loadShifter (s : State) (w : Word) (rest : List Word) : State :=
  { s with txq := rest, osr := w, bcnt := 24 }

/-! ### Wire and line (R29, R30, R152) -/

/-- `WIRE.emit(x)` with the line coder's pulse for it (R152). Between two steps the line is at
rest: the pulse lies within the step. -/
def State.emit (s : State) (x : Symbol) : State :=
  { s with
    wire := s.wire ++ [x]
    pulses := s.pulses ++ [pulseOf s.cfgPin s.cfgRate s.cfgInvert x]
    dout := .driven (restLevel s.cfgInvert) }

/-- OSR one place to the left, BCNT one less (R150). -/
def State.shiftOsr (s : State) : State := { s with osr := s.osr <<< 1, bcnt := s.bcnt - 1 }

/-! ### Render sequencing (R141, R142) -/

/-- `CPST <- RENDERING`, `RIDX <- 0` (R141). -/
def State.beginRender (s : State) : State := { s with cpst := .rendering, ridx := 0 }

/-- After a push (R142): `if RIDX = 24 then CPST <- IDLE`, `RIDX <- RIDX + 1`. -/
def State.endPush (s : State) : State :=
  { s with cpst := if s.ridx = 24 then .idle else s.cpst, ridx := s.ridx + 1 }

/-! ### Configuration (R181) -/

/-- `configure_transmitter(pin, rate, inv)` (R181, D30): the registers hold the arguments, the line
becomes driven at its rest level, and an opaque value is drawn and returned. -/
def State.configureTransmitter (s : State) (pin rate : Nat) (inv : Bool) : Nat × State :=
  (Config.freeProgOffset s.draws,
    { s with
      cfgPin := pin
      cfgRate := rate
      cfgInvert := inv
      dout := .driven (restLevel inv)
      draws := s.draws + 1 })

/-- `PROG_OFFSET <- o`, `INITED <- 1` (R180). -/
def State.storeConfigured (s : State) (o : Nat) : State :=
  { s with progOffset := o, inited := true }

/-! ### Undefined behaviour and readiness

M5TX takes no exception and returns from none (R200, R205). What stands in that place is one shared
answer for the three sequences M5 calls undefined. -/

/-- `undefined(U<n>)` (R206): FAULT is set with the reason and nothing else is defined, so there is
no next state (log 5). -/
def undefinedBehaviour (f : Fault) : Answer := .fault f

/-- FAULT ← 1 with reason `f` (R31). What else the state holds then is not to be read: no claim is
made of a state with FAULT = 1 (R206). -/
def State.setFault (s : State) (f : Fault) : State := { s with fault := some f }

/-- A command is accepted only while CMD_READY = 1 (R33, D25); put to the machine while it is
rendering it has no move (U17, log 6). -/
def whenReady (s : State) (meaning : State → Answer) : Answer :=
  if s.cmdReady then meaning s else .refused .commandNotReady

/-! ### Inputs from outside -/

/-- The commands the host will issue, in order (log 2). -/
def State.load (s : State) (items : List HostItem) : State := { s with hostq := items }

/-- The command presented is taken. -/
def State.takeCommand (s : State) (rest : List HostItem) : State := { s with hostq := rest }

/-- The agent whose turn it is (log 1): as settled, else free. -/
def State.turn (s : State) : Agent :=
  match s.sched with
  | a :: _ => a
  | [] => Config.freeSchedule s.ticks

/-- A turn has been used. -/
def State.passTurn (s : State) : State := { s with sched := s.sched.tail, ticks := s.ticks + 1 }

/-- The reset event (R230): power-on or the assertion of RST_N. Every piece of the machine's state
takes its reset value and nothing survives; the inputs from outside and the counters of the free
values are not the machine's and stay (log 14). -/
def State.assertReset (s : State) : State :=
  { State.reset with hostq := s.hostq, sched := s.sched, ticks := s.ticks, draws := s.draws }

end Sys2Proof.Machine
end

