-- ==== Sys2Proof/Machine/Buffer.lean ====
section
/-! DEFINITION. The meanings of the staging commands CLEAR and SET_PIXEL (41_buffer_commands.md). -/

namespace Sys2Proof.Machine

/-- CLEAR (R121): defined whether or not INIT has been executed (R124, log 12). -/
def execClear (s : State) : Answer :=
  whenReady s fun s => .next s.clearSlots

/-- SET_PIXEL x, y, r, g, b (R122): first the INIT precondition (R204, U2 by R125), then the range
check; out of range it changes no state at all (R123). -/
def execSetPixel (x y : Int) (r g b : Chan) (s : State) : Answer :=
  whenReady s fun s =>
    if s.inited then
      match coords? x y with
      | some (cx, cy) => .next (s.writeSlot (index cx cy) (pack r g b))
      | none => .next s
    else undefinedBehaviour .setPixelBeforeInit

end Sys2Proof.Machine
end

