-- ==== Sys2Proof/Machine/Render.lean ====
section
/-! DEFINITION. RENDER (42_render_transmit.md section 1): its accept step, which is the meaning of
the command, and the push step that CP then takes 25 times. -/

namespace Sys2Proof.Machine

/-- RENDER, first step (R140, R141): accept. When INITED = 0 it is U3 (R148). -/
def execRender (s : State) : Answer :=
  whenReady s fun s =>
    if s.inited then .next s.beginRender else undefinedBehaviour .renderBeforeInit

/-- RENDER, push step (R142): `none` while it is not enabled. The slot is read at the push (D24). -/
def State.push (s : State) : Option State :=
  match s.cpst with
  | .idle => none
  | .rendering =>
    if h : s.ridx < 25 then
      (s.transmitBlocking (transmitWord (s.slot ⟨s.ridx, h⟩))).map State.endPush
    else none

end Sys2Proof.Machine
end

