-- ==== Sys2Proof/Machine/System.lean ====
section
/-! DEFINITION. The meaning of INIT (43_init.md). -/

namespace Sys2Proof.Machine

/-- INIT (R180, R182): the arguments are constants of the block. When INITED = 1 it is U1 (R184). -/
def execInit (s : State) : Answer :=
  whenReady s fun s =>
    if s.inited then undefinedBehaviour .initTwice
    else
      let (o, s₁) := s.configureTransmitter Config.pin Config.rateNominal Config.invert
      .next (s₁.storeConfigured o)

end Sys2Proof.Machine
end

