-- ==== Sys2Proof/Machine/Dispatch.lean ====
section
/-! DEFINITION. One arm per command: the meaning of each at the command processor. -/

namespace Sys2Proof.Machine

def exec (i : Instr) (s : State) : Host.Outcome State Fault Refusal :=
  match i with
  | .init => Sys2Proof.Machine.execInit s
  | .clear => Sys2Proof.Machine.execClear s
  | .setPixel x y r g b => Sys2Proof.Machine.execSetPixel x y r g b s
  | .render => Sys2Proof.Machine.execRender s

end Sys2Proof.Machine
end

