-- ==== Sys2Proof/Machine/Serialiser.lean ====
section
/-! DEFINITION. The serialiser SER (42_render_transmit.md section 2): pull and shift. -/

namespace Sys2Proof.Machine

/-- Pull step (R149): the head of TXQ into OSR, BCNT ← 24; `none` on an empty queue. -/
def State.pull (s : State) : Option State :=
  match s.txq with
  | [] => none
  | w :: rest => some (s.loadShifter w rest)

/-- Shift step (R150): emit `sym(OSR[31])`, then shift. -/
def State.shift (s : State) : State := (s.emit (sym (s.osr.getLsbD 31))).shiftOsr

/-- The step of SER, `none` while it has none: no step at all while INITED = 0 (R149); a shift while
bits are left (R150), so that a word's 24 shifts are consecutive steps of SER; else a pull (R149). -/
def serStep (s : State) : Option State :=
  if s.inited then
    if 0 < s.bcnt then some s.shift else s.pull
  else none

end Sys2Proof.Machine
end

