-- ==== Sys2Proof/Machine/Agents.lean ====
section
/-! DEFINITION. The steps of the two agents and the choice between them (R8, R245, D28). -/

namespace Sys2Proof.Machine

/-- The command of a host item: a word goes through the decoder (R85), an abstract command is itself. -/
def HostItem.instr : HostItem → Instr
  | .word w => decode w
  | .command i => i

/-- CP accepts the command presented (R33, R59): it is taken from the host and executed. `none`
while the host presents none. -/
def acceptStep (s : State) : Option Answer :=
  match s.hostq with
  | [] => none
  | c :: rest => some (exec c.instr (s.takeCommand rest))

/-- The step of CP, `none` while it has none: between commands it accepts (R33), inside a RENDER it
pushes or waits (R142). -/
def cpStep (s : State) : Option Answer :=
  match s.cpst with
  | .idle => acceptStep s
  | .rendering => s.push.map .next

/-- The step of one agent, if it has one. -/
def agentStep (a : Agent) (s : State) : Option Answer :=
  match a with
  | .cp => cpStep s
  | .ser => (serStep s).map .next

/-- The agent that is not `a`. -/
def otherAgent : Agent → Agent
  | .cp => .ser
  | .ser => .cp

/-- One turn (log 1): the agent whose turn it is steps; where it has no step the other one does, so
that an enabled SER is never passed over for nothing (R240). `none` when neither has a step. -/
def turnStep (s : State) : Option Answer :=
  match agentStep s.turn s.passTurn with
  | some o => some o
  | none => agentStep (otherAgent s.turn) s.passTurn

end Sys2Proof.Machine
end

