-- ==== Sys2Proof/Machine/Step.lean ====
section
/-! DEFINITION. One step of the machine, and how a command is put where the next step takes it. -/

namespace Sys2Proof.Machine

/-- One step. A state with FAULT = 1 has no next one (R31, R206). Otherwise one agent steps; where
none has a step (R154, R235) the machine rests and its state stays as it is (log 7). -/
def step (s : State) : Host.Outcome State Fault Refusal :=
  match s.fault with
  | some f => .fault f
  | none =>
    match turnStep s with
    | some o => o
    | none => .next s

/-- `s` with the command word presented next, CMD_READY = 1, no FAULT, and the next turn CP's, so
that the very next step accepts and runs it. It stands for the host's load of a program (log 2);
it is no move of the machine. -/
def State.withFetchWord (s : State) (nbits w : Nat) : State :=
  { s with
    hostq := .word (BitVec.ofNat 32 (w % 2 ^ nbits)) :: s.hostq
    sched := .cp :: s.sched
    cpst := .idle
    fault := none }

end Sys2Proof.Machine
end

