-- ==== Sys2Proof/Machine/Assembler.lean ====
section
/-! DEFINITION. The assembly spelling of R91 (decision D29): a line is a mnemonic in capitals or
lower case, for SET_PIXEL followed by five decimal or 0x operands separated by commas in the order
x, y, r, g, b; `#` starts a comment. Text is a list of characters. Which characters are blanks,
where a blank may be left out, and that a line may hold nothing, are the model's choice (log 15). -/

namespace Sys2Proof.Machine

/-- What the assembler makes of one line. -/
inductive AsmLine where
  /-- Blanks and a comment only. -/
  | nothing
  /-- A command that has a command word. -/
  | command (i : Instr)
  /-- No line of the syntax, or an operand its field cannot hold (R91). -/
  | refused
  deriving DecidableEq, Repr

/-- Space, tab, carriage return. -/
def isBlank (c : Char) : Bool := c == ' ' || c == '\t' || c == '\r'

/-- A character of a mnemonic. -/
def isNameChar (c : Char) : Bool := c.isAlpha || c == '_'

/-- Without the blanks at both ends. -/
def trimBlanks (t : List Char) : List Char :=
  ((t.dropWhile isBlank).reverse.dropWhile isBlank).reverse

/-- Without the comment (R91). -/
def dropComment (t : List Char) : List Char := t.takeWhile (· != '#')

/-- The pieces between commas; `piece` is what has been read of the current one, last first. -/
def splitCommas (piece : List Char) : List Char → List (List Char)
  | [] => [piece.reverse]
  | ',' :: t => piece.reverse :: splitCommas [] t
  | c :: t => splitCommas (c :: piece) t

/-- The value of one digit in base 10 or 16. -/
def digitValue (base : Nat) (c : Char) : Option Nat :=
  let v :=
    if '0' ≤ c ∧ c ≤ '9' then c.toNat - '0'.toNat
    else if 'a' ≤ c ∧ c ≤ 'f' then c.toNat - 'a'.toNat + 10
    else if 'A' ≤ c ∧ c ≤ 'F' then c.toNat - 'A'.toNat + 10
    else base
  if v < base then some v else none

/-- Digits most significant first, on top of what has been read. -/
def digitsValue (base : Nat) (sofar : Nat) : List Char → Option Nat
  | [] => some sofar
  | c :: t =>
    match digitValue base c with
    | some d => digitsValue base (sofar * base + d) t
    | none => none

/-- One operand: decimal, or hexadecimal after `0x` (R91); at least one digit. -/
def operandValue (t : List Char) : Option Nat :=
  match trimBlanks t with
  | [] => none
  | '0' :: 'x' :: [] => none
  | '0' :: 'x' :: ds => digitsValue 16 0 ds
  | ds => digitsValue 10 0 ds

/-- SET_PIXEL from its operand values; refused when a field cannot hold one (R91). -/
def setPixelOf (x y r g b : Nat) : AsmLine :=
  if x ≤ 7 ∧ y ≤ 7 ∧ r ≤ 255 ∧ g ≤ 255 ∧ b ≤ 255 then
    .command (.setPixel x y (BitVec.ofNat 8 r) (BitVec.ofNat 8 g) (BitVec.ofNat 8 b))
  else .refused

/-- A command without operands. -/
def bareCommand (i : Instr) (operands : List Char) : AsmLine :=
  if operands.isEmpty then .command i else .refused

/-- SET_PIXEL from its operand text: exactly five operands. -/
def pixelCommand (operands : List Char) : AsmLine :=
  match (splitCommas [] operands).map operandValue with
  | [some x, some y, some r, some g, some b] => setPixelOf x y r g b
  | _ => .refused

/-- One line (R91). DESIGN CHOICE (log 15): R91 does not say whether a blank must stand between the
mnemonic and its first operand; here none is needed, the mnemonic ends at the first character that
is no letter and no `_`. -/
def assembleLine (line : List Char) : AsmLine :=
  let text := trimBlanks (dropComment line)
  let name := (text.takeWhile isNameChar).map Char.toUpper
  let operands := trimBlanks (text.dropWhile isNameChar)
  if text.isEmpty then .nothing
  else if name = ['I', 'N', 'I', 'T'] then bareCommand .init operands
  else if name = ['C', 'L', 'E', 'A', 'R'] then bareCommand .clear operands
  else if name = ['R', 'E', 'N', 'D', 'E', 'R'] then bareCommand .render operands
  else if name = ['S', 'E', 'T', '_', 'P', 'I', 'X', 'E', 'L'] then pixelCommand operands
  else .refused

/-- A program, one command per line, to its command words; none when a line is refused. -/
def assemble : List (List Char) → Option (List Word)
  | [] => some []
  | l :: ls =>
    match assembleLine l with
    | .nothing => assemble ls
    | .command i => (assemble ls).map (encode i :: ·)
    | .refused => none

end Sys2Proof.Machine
end

