-- ==== Sys2Proof/Safety.lean ====
section
/-! DEFINITION. The terms claims about M5TX use: runs with the sticky FAULT, quiescence and the end
of a run (R235), the symbols a word, a slot and a buffer stand for (R155), what a state still holds
to be sent, the work left in it (R245), the legal command sequences (R232), the state invariant,
and a reference description of a program's frames in logical pixels that uses neither the machine
nor its mapper. -/

namespace Sys2Proof.Machine

/-! ### Runs -/

/-- One step of a run as the spec sees it (R31, R206): a fault sets FAULT and the run stays there.
What else a faulted state holds is not to be read. -/
def advance (s : State) : State :=
  match step s with
  | .next t => t
  | .fault f => s.setFault f
  | .refused _ => s

/-- The state `n` steps later. -/
def after : Nat → State → State
  | 0, s => s
  | n + 1, s => after n (advance s)

/-- `n` steps of SER in a row, `none` if one of them is not enabled. -/
def serRun : Nat → State → Option State
  | 0, s => some s
  | n + 1, s => (serStep s).bind (serRun n)

/-- Quiescent (R235): the host has no further command, CPST = IDLE, TXQ empty, BCNT = 0. -/
def State.quiescent (s : State) : Bool :=
  s.hostq.isEmpty && s.cpst == .idle && s.txq.isEmpty && decide (s.bcnt = 0)

/-- A run has ended (R235): quiescent with FAULT = 0. -/
def State.ended (s : State) : Bool := s.quiescent && s.fault.isNone

/-- The commands the host has still to issue. -/
def State.commands (s : State) : List Instr := s.hostq.map HostItem.instr

/-! ### Symbols -/

/-- `bits24(v)` (R155): the symbols of a slot value, bit 23 first. -/
def bits24 (v : Word) : List Symbol := (List.range 24).map fun k => sym (v.getLsbD (23 - k))

/-- `frame(B)` (R155): the symbols of a buffer, slot 0 first. -/
def frame (pb : Vector Word 25) : List Symbol := pb.toList.flatMap bits24

/-- The first `n` symbols of a transmit word, bit 31 first (R150). -/
def leadingSymbols (w : Word) (n : Nat) : List Symbol :=
  (List.range n).map fun k => sym (w.getLsbD (31 - k))

/-- The symbols of the slots RENDER has still to push. -/
def State.unpushed (s : State) : List Symbol :=
  match s.cpst with
  | .idle => []
  | .rendering => (s.pb.toList.drop s.ridx).flatMap bits24

/-- What OSR and BCNT, TXQ, and the slots from RIDX on still hold to be sent, in that order (R155). -/
def State.pending (s : State) : List Symbol :=
  leadingSymbols s.osr s.bcnt ++ s.txq.flatMap (leadingSymbols · 24) ++ s.unpushed

/-- What has been sent and what is still held to be sent. -/
def State.committed (s : State) : List Symbol := s.wire ++ s.pending

/-- The time until the wire is idle if no further command comes and no rest falls between words
(R239): informative, one symbol period for each pending symbol. -/
def State.drainTime (s : State) : ℚ := s.pending.length * Config.tSym

/-- The same at the nominal rate, as R244 computes it: 1.25 µs a symbol at 800000 Hz. -/
def State.nominalDrainTime (s : State) : ℚ := s.pending.length * symbolPeriod s.cfgRate

/-! ### Work (R245): the steps a command still causes -/

/-- INIT, CLEAR, SET_PIXEL one step each; RENDER one accept, 25 pushes, 25 pulls, 600 shifts. -/
def commandWork : Instr → Nat
  | .init => 1
  | .clear => 1
  | .setPixel _ _ _ _ _ => 1
  | .render => 1 + 25 * (1 + 1 + 24)

/-- The pushes, pulls and shifts the RENDER in progress still causes. -/
def State.renderWork (s : State) : Nat :=
  match s.cpst with
  | .idle => 0
  | .rendering => (25 - s.ridx) * (1 + 1 + 24)

/-- All steps left in a state. -/
def State.work (s : State) : Nat :=
  (s.commands.map commandWork).sum + s.renderWork + s.txq.length * (1 + 24) + s.bcnt

/-! ### Legal command sequences (R232) -/

/-- Is it CLEAR. -/
def isClear : Instr → Bool
  | .init => false
  | .clear => true
  | .setPixel _ _ _ _ _ => false
  | .render => false

/-- Is it INIT. -/
def isInit : Instr → Bool
  | .init => true
  | .clear => false
  | .setPixel _ _ _ _ _ => false
  | .render => false

/-- The grammar of R232, `CLEAR* INIT (CLEAR | SET_PIXEL | RENDER)*`, and the sequences of CLEAR
alone, which are cut off before their INIT (log 16). -/
def legalSequence (cs : List Instr) : Bool :=
  match cs.dropWhile isClear with
  | [] => true
  | c :: rest => isInit c && rest.all (fun d => !isInit d)

/-! ### The state invariant -/

/-- The configuration registers after INIT (R182) and the line at rest (R152, R181). -/
structure State.Configured (s : State) : Prop where
  pin : s.cfgPin = Config.pin
  rate : s.cfgRate = Config.rateNominal
  invert : s.cfgInvert = Config.invert
  line : s.dout = .driven (restLevel Config.invert)

/-- Before INIT nothing has been queued, sent or driven (R149, R231). -/
structure State.Unconfigured (s : State) : Prop where
  idle : s.cpst = .idle
  queue : s.txq = []
  shifter : s.bcnt = 0
  wire : s.wire = []
  line : s.dout = .undriven

/-- What holds in every reachable state with FAULT = 0: the upper 8 bits of a slot are 0 (R22); the
low 8 bits of a queued word are 0 (R145); TXQ holds at most QDEPTH words (R27); RIDX is at most 25
and, inside a RENDER, below 25 (R28, R142); BCNT is at most 24 (R29); inside a word, OSR holds BCNT
bits still to send and the padding behind them, so its other bits are 0 (R145, R150); before INIT nothing has
happened on the line, and after it the configuration is INIT's; every symbol had its pulse (R152). -/
structure State.Inv (s : State) : Prop where
  slots : ∀ i : Fin 25, (s.slot i).extractLsb' 24 8 = 0#8
  padding : ∀ w ∈ s.txq, w.extractLsb' 0 8 = 0#8
  capacity : s.txq.length ≤ Config.queueDepth
  ridx : s.ridx ≤ 25
  rendering : s.cpst = .rendering → s.ridx < 25
  bcnt : s.bcnt ≤ 24
  osr : 0 < s.bcnt → ∀ k, k < 32 - s.bcnt → s.osr.getLsbD k = false
  before : s.inited = false → s.Unconfigured
  configured : s.inited = true → s.Configured
  pulses : s.pulses = s.wire.map (pulseOf Config.pin Config.rateNominal Config.invert)

/-! ### Reference: a program's frames in logical pixels -/

/-- A pixel's channels in the caller's order. -/
structure Rgb where
  r : Chan
  g : Chan
  b : Chan
  deriving DecidableEq, Repr

/-- A picture: a colour for each logical coordinate, column first. -/
abbrev Picture := Fin 5 → Fin 5 → Rgb

/-- All pixels off. -/
def Picture.black : Picture := fun _ _ => ⟨0#8, 0#8, 0#8⟩

/-- What a staging command does to a picture (R121 to R123): an out-of-range SET_PIXEL does nothing. -/
def Picture.stage (p : Picture) : Instr → Picture
  | .init => p
  | .clear => .black
  | .setPixel x y r g b => fun cx cy =>
      if (cx.val : Int) = x ∧ (cy.val : Int) = y then ⟨r, g, b⟩ else p cx cy
  | .render => p

/-- The picture at each RENDER of a program, in order (R60, R155). -/
def Picture.frames (p : Picture) : List Instr → List Picture
  | [] => []
  | .render :: cs => p :: Picture.frames p cs
  | .init :: cs => Picture.frames p cs
  | .clear :: cs => Picture.frames .black cs
  | .setPixel x y r g b :: cs => Picture.frames (p.stage (.setPixel x y r g b)) cs

/-- The picture a program leaves. -/
def Picture.final (p : Picture) : List Instr → Picture
  | [] => p
  | c :: cs => Picture.final (p.stage c) cs

/-- The column of the slot at row' `row` and place `c` of the row (the inverse of R104). -/
def slotColumn (row c : Fin 5) : Fin 5 := if row.val % 2 = 0 then c else ⟨4 - c.val, by omega⟩

/-- The logical row of row' `row` (R101 read backwards). -/
def slotRow (row : Fin 5) : Fin 5 := ⟨4 - row.val, by omega⟩

/-- The eight symbols of a channel, most significant bit first (R53). -/
def chanSymbols (c : Chan) : List Symbol := (List.range 8).map fun k => sym (c.getLsbD (7 - k))

/-- The 24 symbols of a pixel: green, red, blue (R52, R53). -/
def Rgb.symbols (p : Rgb) : List Symbol := chanSymbols p.g ++ chanSymbols p.r ++ chanSymbols p.b

/-- The 600 symbols of a picture: rows' 0 to 4, five places each, along the serpentine (R51, R90). -/
def Picture.symbols (p : Picture) : List Symbol :=
  (List.finRange 5).flatMap fun row =>
    (List.finRange 5).flatMap fun c => (p (slotColumn row c) (slotRow row)).symbols

/-- The picture a buffer holds. -/
def pictureOf (pb : Vector Word 25) : Picture := fun x y =>
  let v := pb[index x y]
  ⟨v.extractLsb' 8 8, v.extractLsb' 16 8, v.extractLsb' 0 8⟩

end Sys2Proof.Machine
end

