-- ==== Sys2Proof/Certificates/Slice0/Obligations.lean ====
section
/-! DEFINITION. What is claimed of the model, each statement with the rule of the spec it comes
from. Nothing is proved here. -/

open Sys2Proof Sys2Proof.Machine

/-! ### Encoding -/

/-- The 15 decoding vectors of 95_test_vectors.md section 2.4, the reserved bits of format N set or
not. -/
def Obligations.DecoderReadsTheWordsOfTheSpec : Prop :=
  decode 0x00000000#32 = .init ∧ decode 0x3FFFFFFF#32 = .init ∧ decode 0x12345678#32 = .init ∧
  decode 0x40000000#32 = .clear ∧ decode 0x7ABCDEF0#32 = .clear ∧
  decode 0xC0000000#32 = .render ∧ decode 0xFFFFFFFF#32 = .render ∧
  decode 0x80FF0080#32 = .setPixel 0 0 255#8 0#8 128#8 ∧
  decode 0x92123456#32 = .setPixel 2 2 0x12#8 0x34#8 0x56#8 ∧
  decode 0xA4010203#32 = .setPixel 4 4 1#8 2#8 3#8 ∧
  decode 0x8300FF00#32 = .setPixel 0 3 0#8 255#8 0#8 ∧
  decode 0xA3AA55FF#32 = .setPixel 4 3 0xAA#8 0x55#8 0xFF#8 ∧
  decode 0xA8090909#32 = .setPixel 5 0 9#8 9#8 9#8 ∧
  decode 0x85090909#32 = .setPixel 0 5 9#8 9#8 9#8 ∧
  decode 0xBFFFFFFF#32 = .setPixel 7 7 255#8 255#8 255#8

/-- R84, R85, R86: bits [31:30] alone select the command, and the operands of SET_PIXEL are their
fields read as unsigned integers. -/
def Obligations.DecoderReadsEveryWordByItsFields : Prop :=
  ∀ w : Word,
    (w.extractLsb' 30 2 = 0b00#2 → decode w = .init) ∧
    (w.extractLsb' 30 2 = 0b01#2 → decode w = .clear) ∧
    (w.extractLsb' 30 2 = 0b10#2 →
      decode w = .setPixel (w.extractLsb' 27 3).toNat (w.extractLsb' 24 3).toNat
        (w.extractLsb' 16 8) (w.extractLsb' 8 8) (w.extractLsb' 0 8)) ∧
    (w.extractLsb' 30 2 = 0b11#2 → decode w = .render)

/-- R85: "`decode(encode(c)) = c` for every command whose x and y lie in 0 to 7". -/
def Obligations.DecodeOfEncodeIsTheCommand : Prop :=
  ∀ i : Instr, i.wellFormed = true → decode (encode i) = i

/-- R85: "`encode(decode(w)) = w` exactly when w is SET_PIXEL or has bits [29:0] zero". -/
def Obligations.EncodeOfDecodeIsTheWordExactlyWhenCanonical : Prop :=
  ∀ w : Word, encode (decode w) = w ↔
    (∃ x y r g b, decode w = .setPixel x y r g b) ∨ w.extractLsb' 0 30 = 0#30

/-- R91: what the assembler accepts has a command word, and that word is the command's; a SET_PIXEL
it accepts has five operands between commas after its mnemonic, whose values are x, y, r, g, b in
that order, none of them reduced to fit its field. -/
def Obligations.AssemblerAcceptsOnlyWhatAWordSpells : Prop :=
  ∀ (line : List Char) (i : Instr), assembleLine line = .command i →
    i.wellFormed = true ∧ decode (encode i) = i ∧
      ∀ x y r g b, i = .setPixel x y r g b →
        (splitCommas [] (trimBlanks ((trimBlanks (dropComment line)).dropWhile isNameChar))).map
          operandValue =
            [some x.toNat, some y.toNat, some r.toNat, some g.toNat, some b.toNat]

/-- R91: the mnemonics in capitals and in lower case; an operand in decimal or after 0x is its
number; five operands separated by commas are x, y, r, g, b, and the line is refused when x or y is
above 7 or r, g or b above 255. -/
def Obligations.AssemblerReadsFiveOperandsInOrder : Prop :=
  (∀ t ∈ ["INIT".toList, "init".toList], assembleLine t = .command .init) ∧
  (∀ t ∈ ["CLEAR".toList, "clear".toList], assembleLine t = .command .clear) ∧
  (∀ t ∈ ["RENDER".toList, "render".toList], assembleLine t = .command .render) ∧
  (∀ n : Nat, operandValue (Nat.toDigits 10 n) = some n ∧
    operandValue ('0' :: 'x' :: Nat.toDigits 16 n) = some n) ∧
  (∀ name ∈ ["SET_PIXEL ".toList, "set_pixel ".toList],
    ∀ (tx ty tr tg tb : List Char) (x y r g b : Nat),
      operandValue tx = some x → operandValue ty = some y → operandValue tr = some r →
      operandValue tg = some g → operandValue tb = some b →
      assembleLine (name ++ tx ++ [','] ++ ty ++ [','] ++ tr ++ [','] ++ tg ++ [','] ++ tb) =
        if x ≤ 7 ∧ y ≤ 7 ∧ r ≤ 255 ∧ g ≤ 255 ∧ b ≤ 255 then
          .command (.setPixel x y (BitVec.ofNat 8 r) (BitVec.ofNat 8 g) (BitVec.ofNat 8 b))
        else .refused)

/-! ### Mapper and packer -/

/-- R101, R102: row inversion and the serpentine rule. -/
def Obligations.MapperFollowsTheSerpentineRule : Prop :=
  ∀ x y : Fin 5, (physicalRow y).val = 4 - y.val ∧
    ((4 - y.val) % 2 = 0 → (index x y).val = (4 - y.val) * 5 + x.val) ∧
    ((4 - y.val) % 2 = 1 → (index x y).val = (4 - y.val) * 5 + (4 - x.val))

/-- R104: a bijection from the 25 coordinates onto the 25 slots, with the inverse the rule gives. -/
def Obligations.MapperIsABijectionWithItsInverse : Prop :=
  (∀ k : Fin 25, ∃ x y : Fin 5, index x y = k) ∧
  (∀ x y : Fin 5, y.val = 4 - (index x y).val / 5 ∧
    x.val = if (index x y).val / 5 % 2 = 0 then (index x y).val % 5 else 4 - (index x y).val % 5)

/-- R120: the packer concatenates zero, green, red, blue; it is injective. -/
def Obligations.PackerPutsGreenRedBlue : Prop :=
  (∀ r g b : Chan, pack r g b = 0x00#8 ++ g ++ r ++ b ∧
    pack r g b = (g.setWidth 32 <<< 16) ||| (r.setWidth 32 <<< 8) ||| b.setWidth 32) ∧
  (∀ r g b r' g' b' : Chan, pack r g b = pack r' g' b' → r = r' ∧ g = g' ∧ b = b') ∧
  pack 0#8 0#8 0#8 = 0#32 ∧ pack 255#8 0#8 128#8 = 0x0000FF80#32 ∧
  pack 0x12#8 0x34#8 0x56#8 = 0x00341256#32

/-- R145: the transmit word of a slot whose upper 8 bits are 0 is its colour word and 8 zero bits;
of a packed pixel it is green, red, blue, zero. -/
def Obligations.TransmitWordIsTheColourWordLeftAligned : Prop :=
  (∀ v : Word, v.extractLsb' 24 8 = 0#8 → transmitWord v = v.extractLsb' 0 24 ++ 0x00#8) ∧
  (∀ r g b : Chan, transmitWord (pack r g b) = g ++ r ++ b ++ 0x00#8)

/-! ### INIT -/

/-- R180, R181, R182: INIT on an idle, unconfigured block: the next state, field by field; all else
as before. PROG_OFFSET is the value drawn, about which nothing is known (log 8); the line at rest is
IDLE_LEVEL seen through the inversion (log 13). -/
def Obligations.InitConfiguresTheTransmitter : Prop :=
  ∀ s : State, s.cpst = .idle → s.inited = false →
    exec .init s = .next
      { s with
        cfgPin := Config.pin
        cfgRate := 800000
        cfgInvert := Config.invert
        progOffset := Config.freeProgOffset s.draws
        inited := true
        dout := .driven
          (if Config.invert then otherLevel Config.idleLevel else Config.idleLevel)
        draws := s.draws + 1 }

/-- R184: a second INIT is U1. That an undefined command answers a fault is the model's form (log 5,
D7). -/
def Obligations.SecondInitIsUndefined : Prop :=
  ∀ s : State, s.cpst = .idle → s.inited = true → exec .init s = .fault .initTwice

/-! ### CLEAR and SET_PIXEL -/

/-- R121, R124: CLEAR, whose canonical word is 0x40000000, gives 25 zero
slots and changes nothing else, the queue in particular; a second CLEAR is as one; the frame of the
buffer it leaves is 600 symbols S0. That this holds with INITED = 0 too is R124, which the spec marks
as its own reading of M5 (D8); the model takes that choice (log 12). -/
def Obligations.ClearZeroesEverySlotAndNothingElse : Prop :=
  encode .clear = 0x40000000#32 ∧
  ∀ s : State, s.cpst = .idle →
    ∃ t, exec .clear s = .next t ∧ (∀ i : Fin 25, t.slot i = 0x00000000#32) ∧
      t = { s with pb := t.pb } ∧ exec .clear t = .next t ∧ frame t.pb = List.replicate 600 .s0

/-- R122: SET_PIXEL in range stores the packed word in the slot of the coordinate, the slot number
given by R101 and R102 on integers; every other slot and all other state as before. -/
def Obligations.SetPixelStoresThePackedWordInItsSlot : Prop :=
  ∀ (s : State) (x y : Int) (r g b : Chan), s.cpst = .idle → s.inited = true →
    0 ≤ x → x ≤ 4 → 0 ≤ y → y ≤ 4 →
    ∃ (t : State) (k : Fin 25), exec (.setPixel x y r g b) s = .next t ∧
      (k.val : Int) = (if (4 - y) % 2 = 0 then (4 - y) * 5 + x else (4 - y) * 5 + (4 - x)) ∧
      t.slot k = 0x00#8 ++ g ++ r ++ b ∧
      (∀ j : Fin 25, j ≠ k → t.slot j = s.slot j) ∧ t = { s with pb := t.pb }

/-- R123: x or y outside [0,4], as integers: no state changes at all, and the command completes. -/
def Obligations.SetPixelOutOfRangeChangesNothing : Prop :=
  ∀ (s : State) (x y : Int) (r g b : Chan), s.cpst = .idle → s.inited = true →
    (x < 0 ∨ 4 < x ∨ y < 0 ∨ 4 < y) → exec (.setPixel x y r g b) s = .next s

/-- R125, R204: SET_PIXEL before INIT is U2, whatever the coordinates are. That it answers a fault is
the model's form (log 5, D7). -/
def Obligations.SetPixelBeforeInitIsUndefined : Prop :=
  ∀ (s : State) (x y : Int) (r g b : Chan), s.cpst = .idle → s.inited = false →
    exec (.setPixel x y r g b) s = .fault .setPixelBeforeInit

/-! ### RENDER -/

/-- R141: the accept step; CMD_READY is then 0. -/
def Obligations.RenderIsAccepted : Prop :=
  ∀ s : State, s.cpst = .idle → s.inited = true →
    ∃ t, exec .render s = .next t ∧ t.cpst = .rendering ∧ t.ridx = 0 ∧ t.cmdReady = false ∧
      t = { s with cpst := t.cpst, ridx := t.ridx }

/-- R148: RENDER before INIT is U3. That it answers a fault is the model's form (log 5, D7). -/
def Obligations.RenderBeforeInitIsUndefined : Prop :=
  ∀ s : State, s.cpst = .idle → s.inited = false → exec .render s = .fault .renderBeforeInit

/-- R142, R144: the push step, with room: the shifted slot enters at the tail, RIDX counts, and the
25th push returns CP to IDLE; without room CP has no step. -/
def Obligations.PushStepQueuesTheNextSlotOrWaits : Prop :=
  ∀ (s : State) (h : s.ridx < 25), s.cpst = .rendering →
    (s.txq.length < Config.queueDepth → cpStep s = some (.next
      { s with
        txq := s.txq ++ [s.pb[s.ridx] <<< 8]
        cpst := if s.ridx = 24 then .idle else .rendering
        ridx := s.ridx + 1 })) ∧
    (Config.queueDepth ≤ s.txq.length → cpStep s = none)

/-- R142, R143: a RENDER completes with the acceptance of its 25th word, and at no other time: a step
inside it leads to IDLE if and only if it is the push of slot 24. -/
def Obligations.RenderCompletesExactlyAtThe25thPush : Prop :=
  ∀ s t : State, s.cpst = .rendering → step s = .next t →
    (t.cpst = .idle ↔ s.ridx = 24 ∧ t.ridx = 25 ∧ t.txq = s.txq ++ [s.pb[24] <<< 8])

/-- R28, R59, R60: while CP renders, no command is accepted and no slot changes. -/
def Obligations.NothingIsAcceptedWhileRendering : Prop :=
  ∀ s t : State, s.cpst = .rendering → step s = .next t → t.hostq = s.hostq ∧ t.pb = s.pb

/-- U17, R214: a meaning called while CMD_READY = 0 has no move. The refusal is the model's form of
it (log 6). -/
def Obligations.CommandWhileNotReadyHasNoMove : Prop :=
  ∀ (i : Instr) (s : State), s.cpst = .rendering → exec i s = .refused .commandNotReady

/-! ### Serialiser and line coder -/

/-- R149: the pull step, and no step before INIT or with nothing to send. -/
def Obligations.SerialiserPullsTheHeadOfTheQueue : Prop :=
  (∀ (s : State) (w : Word) (rest : List Word), s.inited = true → s.bcnt = 0 → s.txq = w :: rest →
    serStep s = some { s with osr := w, bcnt := 24, txq := rest }) ∧
  (∀ s : State, s.inited = false → serStep s = none) ∧
  (∀ s : State, s.bcnt = 0 → s.txq = [] → serStep s = none)

/-- R150, R152: the shift step emits the symbol of OSR[31], with its pulse, and shifts. -/
def Obligations.SerialiserShiftsOutTheTopBit : Prop :=
  ∀ s : State, s.inited = true → 0 < s.bcnt →
    ∃ t, serStep s = some t ∧
      t.wire = s.wire ++ [if s.osr.getLsbD 31 then .s1 else .s0] ∧
      t.osr = s.osr <<< 1 ∧ t.bcnt = s.bcnt - 1 ∧
      t = { s with wire := t.wire, osr := t.osr, bcnt := t.bcnt, pulses := t.pulses, dout := t.dout }

/-- R150, R151: a pull and 24 shifts send the word's bits 31 to 8, most significant first; its low 8
bits stay behind in OSR[31:24]. -/
def Obligations.WordIsSentMostSignificantFirstWithoutPadding : Prop :=
  ∀ (s : State) (w : Word) (rest : List Word), s.inited = true → s.bcnt = 0 → s.txq = w :: rest →
    ∃ t, serRun 25 s = some t ∧
      t.wire = s.wire ++ (List.range 24).map (fun k => if w.getLsbD (31 - k) then .s1 else .s0) ∧
      t.bcnt = 0 ∧ t.osr = w.extractLsb' 0 8 ++ 0#24 ∧ t.txq = rest

/-- R152, R153: each emitted symbol is one pulse, on CFG_PIN, away from the rest level, T0H or T1H
wide within the symbol period TSYM, sent at the rate CFG_RATE; where TSYM is 1 / CFG_RATE, as R153
writes it (log 18), the pulse and its rest last 1 / CFG_RATE; a step that emits nothing leaves the line as it is. The record
of pulses is the model's own (log 9). -/
def Obligations.EverySymbolIsOnePulseOfItsWidth : Prop :=
  ∀ s t : State, serStep s = some t →
    (t.wire = s.wire ∧ t.pulses = s.pulses ∧ t.dout = s.dout) ∨
    (∃ (x : Symbol) (p : Pulse), t.wire = s.wire ++ [x] ∧ t.pulses = s.pulses ++ [p] ∧
      p.pin = s.cfgPin ∧ p.active ≠ restLevel s.cfgInvert ∧
      p.activeTime = (if x = .s0 then Config.t0h else Config.t1h) ∧
      p.activeTime + p.restTime = Config.tSym ∧ p.nominalPeriod = 1 / (s.cfgRate : ℚ) ∧
      (Config.tSym = 1 / (s.cfgRate : ℚ) → p.activeTime + p.restTime = 1 / (s.cfgRate : ℚ)) ∧
      t.dout = .driven (restLevel s.cfgInvert))

/-- R152, D14 (log 13): CFG_INVERT exchanges the two levels of DOUT. -/
def Obligations.InversionExchangesTheLevels : Prop :=
  (∀ v : Bool, restLevel (!v) = activeLevel v ∧ activeLevel (!v) = restLevel v) ∧
  restLevel false = Config.idleLevel

/-- R7, R152, D11: T0H and T1H differ and lie below the symbol period TSYM, which is positive. That the model's times
have these properties by construction is log 9. -/
def Obligations.PulseWidthsDifferAndFitThePeriod : Prop :=
  0 < Config.tSym ∧ Config.t0h ≠ Config.t1h ∧ 0 ≤ Config.t0h ∧ 0 ≤ Config.t1h ∧
    Config.t0h < Config.tSym ∧ Config.t1h < Config.tSym

/-! ### Frames -/

/-- What each command may change (R121, R122, R123, R140, R180), whenever it gives a next state.
SET_PIXEL changes the slot that the mapper gives its coordinates, none out of range. -/
def Obligations.CommandsChangeOnlyTheirOwnState : Prop :=
  (∀ s t : State, exec .init s = .next t →
    t = { s with cfgPin := t.cfgPin, cfgRate := t.cfgRate, cfgInvert := t.cfgInvert,
                 progOffset := t.progOffset, inited := t.inited, dout := t.dout,
                 draws := t.draws }) ∧
  (∀ s t : State, exec .clear s = .next t → t = { s with pb := t.pb }) ∧
  (∀ (s t : State) (x y : Int) (r g b : Chan), exec (.setPixel x y r g b) s = .next t →
    t = { s with pb := t.pb } ∧
    (∀ cx cy : Fin 5, coords? x y = some (cx, cy) →
      ∀ j : Fin 25, j ≠ index cx cy → t.slot j = s.slot j) ∧
    (coords? x y = none → t.pb = s.pb)) ∧
  (∀ s t : State, exec .render s = .next t → t = { s with cpst := t.cpst, ridx := t.ridx })

/-- R28, R29: CPST and RIDX are written only by CP, OSR, BCNT and WIRE only by SER; they share TXQ. -/
def Obligations.AgentsChangeOnlyTheirOwnState : Prop :=
  (∀ s t : State, s.push = some t →
    t = { s with txq := t.txq, cpst := t.cpst, ridx := t.ridx }) ∧
  (∀ s t : State, serStep s = some t →
    t = { s with txq := t.txq, osr := t.osr, bcnt := t.bcnt, wire := t.wire,
                 pulses := t.pulses, dout := t.dout })

/-! ### Steps -/

/-- R33, R59: a command presented to an idle CP whose turn it is (or whose fellow has no step) is
taken from the host and executed; a command word goes through the decoder. The turns are the model's
form of the open schedule (log 1), the list of commands its form of the host (log 2). -/
def Obligations.StepRunsTheCommandPresented : Prop :=
  ∀ (s : State) (c : HostItem) (rest : List HostItem), s.fault = none → s.cpst = .idle →
    s.hostq = c :: rest → (s.turn = .cp ∨ serStep s = none) →
    step s = exec c.instr { s with hostq := rest, sched := s.sched.tail, ticks := s.ticks + 1 } ∧
      (∀ w, c = .word w → c.instr = decode w) ∧ (∀ i, c = .command i → c.instr = i)

/-- The step after `withFetchWord`, the model's load of one word (log 2), runs the decoded word. -/
def Obligations.StepAfterWithFetchWordRunsTheWord : Prop :=
  ∀ (s : State) (w : Nat), w < 2 ^ 32 →
    step (s.withFetchWord 32 w) = exec (decode (BitVec.ofNat 32 w))
      { s with cpst := .idle, fault := none, ticks := s.ticks + 1 }

/-- R142, R149, R150, R245: the steps of SER and the pushes of CP are taken when it is the agent's
turn or the other one has no step (the schedule: log 1). -/
def Obligations.StepTakesTheEnabledAgent : Prop :=
  (∀ s t : State, s.fault = none → serStep s.passTurn = some t →
    (s.turn = .ser ∨ cpStep s = none) → step s = .next t) ∧
  (∀ s t : State, s.fault = none → s.passTurn.push = some t →
    (s.turn = .cp ∨ serStep s = none) → step s = .next t)

/-- R33, R142, R149, R150: the enabling conditions of the two agents. -/
def Obligations.EnablingConditionsOfTheAgents : Prop :=
  ∀ s : State, (cpStep s).isSome = s.cpEnabled ∧ (serStep s).isSome = s.serEnabled

/-- R86, R200: no command word is illegal and none traps: a step is never refused. -/
def Obligations.StepIsNeverRefused : Prop :=
  ∀ (s : State) (r : Refusal), step s ≠ .refused r

/-- R206: from FAULT = 0 a step faults exactly when CP takes one of the three undefined commands,
with that command's reason (a fault as the outcome: log 5). -/
def Obligations.StepFaultsExactlyOnTheThreeUndefinedCommands : Prop :=
  ∀ (s : State) (f : Fault), s.fault = none →
    (step s = .fault f ↔ s.cpst = .idle ∧ (s.turn = .cp ∨ serStep s = none) ∧
      ∃ c rest, s.hostq = c :: rest ∧
        ((f = .initTwice ∧ c.instr = .init ∧ s.inited = true) ∨
         (f = .setPixelBeforeInit ∧ (∃ x y r g b, c.instr = .setPixel x y r g b) ∧
            s.inited = false) ∨
         (f = .renderBeforeInit ∧ c.instr = .render ∧ s.inited = false)))

/-- R31, R206: FAULT is set by a faulting step and never cleared; a faulted state has no next one
(log 5). -/
def Obligations.FaultIsSticky : Prop :=
  (∀ (s : State) (f : Fault) (n : Nat), step s = .fault f → (after (n + 1) s).fault = some f) ∧
  (∀ (s : State) (f : Fault), s.fault = some f → step s = .fault f)

/-- R24, R25, R26: INITED is set only by a step that takes an INIT and never cleared, and the configuration is constant
once it is set. -/
def Obligations.ConfigurationIsConstantOnceInitialised : Prop :=
  (∀ s t : State, step s = .next t → s.inited = true →
    t.inited = true ∧ t.cfgPin = s.cfgPin ∧ t.cfgRate = s.cfgRate ∧ t.cfgInvert = s.cfgInvert ∧
      t.progOffset = s.progOffset) ∧
  (∀ s t : State, step s = .next t → s.inited = false → t.inited = true →
    s.cpst = .idle ∧ ∃ c, s.hostq = c :: t.hostq ∧ c.instr = .init)

/-- R23: only CLEAR and SET_PIXEL change the buffer. -/
def Obligations.BufferIsChangedOnlyByClearAndSetPixel : Prop :=
  ∀ s t : State, step s = .next t → t.pb ≠ s.pb →
    s.cpst = .idle ∧ ∃ c, s.hostq = c :: t.hostq ∧
      (c.instr = .clear ∨ ∃ x y r g b, c.instr = .setPixel x y r g b)

/-- R29: WIRE is append-only; a step emits at most one symbol. -/
def Obligations.WireOnlyGrowsBySingleSymbols : Prop :=
  ∀ s t : State, step s = .next t → t.wire = s.wire ∨ ∃ x, t.wire = s.wire ++ [x]

/-- R61: words leave TXQ in the order they entered, one at a time, into OSR, between words. -/
def Obligations.QueueIsFirstInFirstOut : Prop :=
  ∀ s t : State, step s = .next t →
    t.txq = s.txq ∨ (∃ w, t.txq = s.txq ++ [w] ∧ s.txq.length < Config.queueDepth) ∨
    (∃ w, s.txq = w :: t.txq ∧ t.osr = w ∧ s.bcnt = 0 ∧ t.bcnt = 24)

/-- R150: while bits of a word are left, only a shift changes OSR, BCNT or WIRE. -/
def Obligations.ShiftsOfAWordAreConsecutive : Prop :=
  ∀ s t : State, step s = .next t → 0 < s.bcnt →
    (t.osr = s.osr ∧ t.bcnt = s.bcnt ∧ t.wire = s.wire) ∨
    (t.osr = s.osr <<< 1 ∧ t.bcnt = s.bcnt - 1 ∧ t.wire = s.wire ++ [sym (s.osr.getLsbD 31)])

/-- R154, R235: in a quiescent state neither agent has a step. That the model's step then leaves
the state as it is, is log 7. -/
def Obligations.QuiescentStateRests : Prop :=
  ∀ s : State, s.ended = true → cpStep s = none ∧ serStep s = none ∧ step s = .next s

/-- R142, R147: a CP that waits inside a RENDER waits on a full queue, and SER has a step. -/
def Obligations.WaitingRenderIsServedByTheSerialiser : Prop :=
  ∀ s : State, s.Inv → s.cpst = .rendering → cpStep s = none →
    s.txq.length = Config.queueDepth ∧ serStep s ≠ none

/-- R235, R240: a state that satisfies the invariant and is not quiescent has a step of an agent. -/
def Obligations.NoReachableStateIsStuck : Prop :=
  ∀ s : State, s.Inv → s.quiescent = false → cpStep s ≠ none ∨ serStep s ≠ none

/-! ### Reset -/

/-- R35: the reset table, the rows that state a value; and the reset event puts any state there
(R230). -/
def Obligations.ResetTable : Prop :=
  ∀ s : State, ∀ t ∈ [State.reset, s.assertReset],
    (∀ i : Fin 25, t.slot i = 0x00000000#32) ∧ t.inited = false ∧ t.txq = [] ∧ t.bcnt = 0 ∧
    t.cpst = .idle ∧ t.ridx = 0 ∧ t.wire = [] ∧ t.fault = none ∧ t.cmdReady = true

/-- R231: after reset neither the serialiser nor, until the host presents a command, CP has a step,
and the line is undriven (the model's form of an unspecified level, log 4). -/
def Obligations.ResetLeavesTheBlockIdleAndUndriven : Prop :=
  State.reset.dout = .undriven ∧ serStep State.reset = none ∧ cpStep State.reset = none ∧
    ∀ c rest, cpStep (State.reset.load (c :: rest)) = some (exec c.instr (State.reset.load rest))

/-! ### Invariant -/

/-- The invariant holds after reset, whatever the host's commands and the schedule are. -/
def Obligations.ResetSatisfiesTheInvariant : Prop :=
  State.reset.Inv ∧ ∀ (items : List HostItem) (sched : List Agent) (k : Nat),
    State.Inv { State.reset with hostq := items, sched := sched, ticks := k }

/-- Every step to a next state keeps the invariant (R22, R27, R28, R29, R145, R150, R25,
R152). -/
def Obligations.StepKeepsTheInvariant : Prop :=
  ∀ s t : State, s.Inv → step s = .next t → t.Inv

/-! ### The wire -/

/-- R50, R54, R90: a frame is 600 symbols, and symbol `24 * i + k` is bit `23 - k` of slot i. -/
def Obligations.FrameSymbolIsTheBitOfItsSlot : Prop :=
  ∀ pb : Vector Word 25, (frame pb).length = 600 ∧
    ∀ (i : Fin 25) (k : Nat), k < 24 →
      (frame pb)[24 * i.val + k]? = some (if pb[i].getLsbD (23 - k) then .s1 else .s0)

/-- R155, step by step: what is sent together with what is still held is lengthened by the frame of
the buffer when a RENDER is accepted, and by nothing else; nothing is lost, repeated or reordered. -/
def Obligations.StepCommitsExactlyTheFramesOfAcceptedRenders : Prop :=
  ∀ s t : State, s.Inv → step s = .next t →
    (s.cpst = .idle ∧ t.cpst = .rendering ∧ t.committed = s.committed ++ frame s.pb) ∨
    (¬ (s.cpst = .idle ∧ t.cpst = .rendering) ∧ t.committed = s.committed)

/-- R155, the wire theorem, end to end in logical pixels: in every run from reset with FAULT = 0, at
every quiescent state, WIRE is the pictures of the program's RENDERs in order, each along the
serpentine, green, red, blue, most significant bit first; and the buffer holds the program's last
picture. For every program at either level, every schedule, every value of the open parameters. -/
def Obligations.WireAtQuiescenceIsThePicturesRendered : Prop :=
  ∀ (items : List HostItem) (sched : List Agent) (k n : Nat),
    let t := after n { State.reset with hostq := items, sched := sched, ticks := k }
    t.fault = none → t.quiescent = true →
      t.wire = (Picture.black.frames (items.map HostItem.instr)).flatMap Picture.symbols ∧
      pictureOf t.pb = Picture.black.final (items.map HostItem.instr)

/-- R155, before quiescence: WIRE is a prefix of that sequence. -/
def Obligations.WireIsAlwaysAPrefixOfThePicturesRendered : Prop :=
  ∀ (items : List HostItem) (sched : List Agent) (k n : Nat),
    let t := after n { State.reset with hostq := items, sched := sched, ticks := k }
    t.fault = none →
      t.wire <+: (Picture.black.frames (items.map HostItem.instr)).flatMap Picture.symbols

/-- R155: the result does not depend on the interleaving of CP and SER, from any state of the
invariant. -/
def Obligations.FinalWireDoesNotDependOnTheSchedule : Prop :=
  ∀ (s : State) (sched sched' : List Agent) (k k' n n' : Nat), s.Inv →
    let t := after n { s with sched := sched, ticks := k }
    let t' := after n' { s with sched := sched', ticks := k' }
    t.fault = none → t'.fault = none → t.quiescent = true → t'.quiescent = true →
      t.wire = t'.wire ∧ t.pb = t'.pb ∧ t.inited = t'.inited

/-- R25, R26, R30, R152: nothing that determines WIRE reads the pin, the rate, the inversion, the
program offset or the line: runs that differ only in these agree on the wire, the buffer, the queue
and the fault. -/
def Obligations.WireDoesNotDependOnTheConfiguration : Prop :=
  ∀ (s : State) (pin rate offset draws : Nat) (invert : Bool) (line : Line) (ps : List Pulse)
    (n : Nat),
    let t := after n s
    let t' := after n { s with cfgPin := pin, cfgRate := rate, cfgInvert := invert,
                               progOffset := offset, dout := line, pulses := ps, draws := draws }
    t'.wire = t.wire ∧ t'.pb = t.pb ∧ t'.txq = t.txq ∧ t'.cpst = t.cpst ∧ t'.fault = t.fault

/-! ### Progress -/

/-- R245: every step from a state that is not quiescent does one unit of the work it holds: INIT,
CLEAR and SET_PIXEL one, RENDER one accept, 25 pushes, 25 pulls and 600 shifts. -/
def Obligations.StepDoesOneUnitOfWork : Prop :=
  ∀ s t : State, s.Inv → s.quiescent = false → step s = .next t → t.work + 1 = s.work

/-- R240: a run of a finite command list reaches quiescence, after as many steps as it holds work,
unless it breaks a precondition on the way. Fairness of SER is the spec's assumption (log 1). -/
def Obligations.RunReachesQuiescence : Prop :=
  ∀ s : State, s.Inv → s.fault = none →
    (after s.work s).fault ≠ none ∨ (after s.work s).quiescent = true

/-- R140, R143, R240: a RENDER in progress returns: CP is idle again with RIDX = 25, the host's
commands and the buffer are as they were, and what was to be sent is sent or still held. -/
def Obligations.RenderReturns : Prop :=
  ∀ s : State, s.Inv → s.fault = none → s.cpst = .rendering →
    ∃ n, n ≤ s.work ∧ (after n s).cpst = .idle ∧ (after n s).ridx = 25 ∧
      (after n s).fault = none ∧ (after n s).hostq = s.hostq ∧ (after n s).pb = s.pb ∧
      (after n s).committed = s.committed

/-- R232: from reset, a program never faults exactly when it is legal. That a program of CLEAR alone
counts as legal is log 16. -/
def Obligations.LegalProgramsAreExactlyThoseThatNeverFault : Prop :=
  ∀ (items : List HostItem) (sched : List Agent) (k : Nat),
    (∀ n, (after n { State.reset with hostq := items, sched := sched, ticks := k }).fault = none) ↔
      legalSequence (items.map HostItem.instr) = true
end

