-- ==== Sys2Proof/Laws/Assembler.lean ====
section
/-! SUPPORT. What the pieces of the assembler accept, and how text falls apart at its commas. -/

namespace Sys2Proof.Machine

theorem bareCommand_eq_command (i j : Instr) (operands : List Char) :
    bareCommand i operands = .command j ↔ operands = [] ∧ i = j := by
  unfold bareCommand
  cases operands <;> simp

/-- What SET_PIXEL's operand values become, and the values no field holds (R91). -/
theorem setPixelOf_eq_command (x y r g b : Nat) (i : Instr) :
    setPixelOf x y r g b = .command i ↔
      (x ≤ 7 ∧ y ≤ 7 ∧ r ≤ 255 ∧ g ≤ 255 ∧ b ≤ 255) ∧
        i = .setPixel x y (BitVec.ofNat 8 r) (BitVec.ofNat 8 g) (BitVec.ofNat 8 b) := by
  unfold setPixelOf
  split <;> simp_all [eq_comm]

/-- A SET_PIXEL is accepted from exactly five operand texts that have values. -/
theorem pixelCommand_eq_command (operands : List Char) (i : Instr) :
    pixelCommand operands = .command i ↔ ∃ x y r g b,
      (splitCommas [] operands).map operandValue = [some x, some y, some r, some g, some b] ∧
        setPixelOf x y r g b = .command i := by
  unfold pixelCommand
  split
  · rename_i x y r g b h
    simp [h]
  · rename_i h
    constructor
    · intro h'; cases h'
    · rintro ⟨x, y, r, g, b, hs, -⟩; exact absurd hs (h x y r g b)

/-- Text without a comma is one piece. -/
theorem splitCommas_one (piece t : List Char) (h : ',' ∉ t) :
    splitCommas piece t = [piece.reverse ++ t] := by
  induction t generalizing piece with
  | nil => simp [splitCommas]
  | cons c t ih =>
    simp only [List.mem_cons, not_or] at h
    rw [splitCommas.eq_3 _ _ _ (fun hc => h.1 hc.symm), ih _ h.2]
    simp

/-- Up to the first comma is one piece, the rest is split by itself. -/
theorem splitCommas_cons (piece t rest : List Char) (h : ',' ∉ t) :
    splitCommas piece (t ++ ',' :: rest) = (piece.reverse ++ t) :: splitCommas [] rest := by
  induction t generalizing piece with
  | nil => simp [splitCommas]
  | cons c t ih =>
    simp only [List.mem_cons, not_or] at h
    rw [List.cons_append, splitCommas.eq_3 _ _ _ (fun hc => h.1 hc.symm), ih _ h.2]
    simp

end Sys2Proof.Machine
end

