-- ==== Sys2Proof/Laws/State.lean ====
section
/-! SUPPORT. One lemma per field for each state update of Machine/Ops.lean, so that no later proof
unfolds a record update. A field an update does not write is said to be as before. -/

namespace Sys2Proof.Machine

/-! ### `writeSlot` -/

@[simp] theorem State.writeSlot_pb (s : State) (i : Fin 25) (v : Word) :
    (s.writeSlot i v).pb = s.pb.set i v := rfl
@[simp] theorem State.writeSlot_inited (s : State) (i : Fin 25) (v : Word) :
    (s.writeSlot i v).inited = s.inited := rfl
@[simp] theorem State.writeSlot_cfgPin (s : State) (i : Fin 25) (v : Word) :
    (s.writeSlot i v).cfgPin = s.cfgPin := rfl
@[simp] theorem State.writeSlot_cfgRate (s : State) (i : Fin 25) (v : Word) :
    (s.writeSlot i v).cfgRate = s.cfgRate := rfl
@[simp] theorem State.writeSlot_cfgInvert (s : State) (i : Fin 25) (v : Word) :
    (s.writeSlot i v).cfgInvert = s.cfgInvert := rfl
@[simp] theorem State.writeSlot_progOffset (s : State) (i : Fin 25) (v : Word) :
    (s.writeSlot i v).progOffset = s.progOffset := rfl
@[simp] theorem State.writeSlot_txq (s : State) (i : Fin 25) (v : Word) :
    (s.writeSlot i v).txq = s.txq := rfl
@[simp] theorem State.writeSlot_cpst (s : State) (i : Fin 25) (v : Word) :
    (s.writeSlot i v).cpst = s.cpst := rfl
@[simp] theorem State.writeSlot_ridx (s : State) (i : Fin 25) (v : Word) :
    (s.writeSlot i v).ridx = s.ridx := rfl
@[simp] theorem State.writeSlot_osr (s : State) (i : Fin 25) (v : Word) :
    (s.writeSlot i v).osr = s.osr := rfl
@[simp] theorem State.writeSlot_bcnt (s : State) (i : Fin 25) (v : Word) :
    (s.writeSlot i v).bcnt = s.bcnt := rfl
@[simp] theorem State.writeSlot_wire (s : State) (i : Fin 25) (v : Word) :
    (s.writeSlot i v).wire = s.wire := rfl
@[simp] theorem State.writeSlot_dout (s : State) (i : Fin 25) (v : Word) :
    (s.writeSlot i v).dout = s.dout := rfl
@[simp] theorem State.writeSlot_fault (s : State) (i : Fin 25) (v : Word) :
    (s.writeSlot i v).fault = s.fault := rfl
@[simp] theorem State.writeSlot_pulses (s : State) (i : Fin 25) (v : Word) :
    (s.writeSlot i v).pulses = s.pulses := rfl
@[simp] theorem State.writeSlot_hostq (s : State) (i : Fin 25) (v : Word) :
    (s.writeSlot i v).hostq = s.hostq := rfl
@[simp] theorem State.writeSlot_sched (s : State) (i : Fin 25) (v : Word) :
    (s.writeSlot i v).sched = s.sched := rfl
@[simp] theorem State.writeSlot_ticks (s : State) (i : Fin 25) (v : Word) :
    (s.writeSlot i v).ticks = s.ticks := rfl
@[simp] theorem State.writeSlot_draws (s : State) (i : Fin 25) (v : Word) :
    (s.writeSlot i v).draws = s.draws := rfl

/-! ### `clearSlots` -/

@[simp] theorem State.clearSlots_pb (s : State) :
    (s.clearSlots).pb = Vector.replicate 25 0#32 := rfl
@[simp] theorem State.clearSlots_inited (s : State) : (s.clearSlots).inited = s.inited := rfl
@[simp] theorem State.clearSlots_cfgPin (s : State) : (s.clearSlots).cfgPin = s.cfgPin := rfl
@[simp] theorem State.clearSlots_cfgRate (s : State) : (s.clearSlots).cfgRate = s.cfgRate := rfl
@[simp] theorem State.clearSlots_cfgInvert (s : State) :
    (s.clearSlots).cfgInvert = s.cfgInvert := rfl
@[simp] theorem State.clearSlots_progOffset (s : State) :
    (s.clearSlots).progOffset = s.progOffset := rfl
@[simp] theorem State.clearSlots_txq (s : State) : (s.clearSlots).txq = s.txq := rfl
@[simp] theorem State.clearSlots_cpst (s : State) : (s.clearSlots).cpst = s.cpst := rfl
@[simp] theorem State.clearSlots_ridx (s : State) : (s.clearSlots).ridx = s.ridx := rfl
@[simp] theorem State.clearSlots_osr (s : State) : (s.clearSlots).osr = s.osr := rfl
@[simp] theorem State.clearSlots_bcnt (s : State) : (s.clearSlots).bcnt = s.bcnt := rfl
@[simp] theorem State.clearSlots_wire (s : State) : (s.clearSlots).wire = s.wire := rfl
@[simp] theorem State.clearSlots_dout (s : State) : (s.clearSlots).dout = s.dout := rfl
@[simp] theorem State.clearSlots_fault (s : State) : (s.clearSlots).fault = s.fault := rfl
@[simp] theorem State.clearSlots_pulses (s : State) : (s.clearSlots).pulses = s.pulses := rfl
@[simp] theorem State.clearSlots_hostq (s : State) : (s.clearSlots).hostq = s.hostq := rfl
@[simp] theorem State.clearSlots_sched (s : State) : (s.clearSlots).sched = s.sched := rfl
@[simp] theorem State.clearSlots_ticks (s : State) : (s.clearSlots).ticks = s.ticks := rfl
@[simp] theorem State.clearSlots_draws (s : State) : (s.clearSlots).draws = s.draws := rfl

/-! ### `enqueue` -/

@[simp] theorem State.enqueue_pb (s : State) (w : Word) : (s.enqueue w).pb = s.pb := rfl
@[simp] theorem State.enqueue_inited (s : State) (w : Word) : (s.enqueue w).inited = s.inited := rfl
@[simp] theorem State.enqueue_cfgPin (s : State) (w : Word) : (s.enqueue w).cfgPin = s.cfgPin := rfl
@[simp] theorem State.enqueue_cfgRate (s : State) (w : Word) :
    (s.enqueue w).cfgRate = s.cfgRate := rfl
@[simp] theorem State.enqueue_cfgInvert (s : State) (w : Word) :
    (s.enqueue w).cfgInvert = s.cfgInvert := rfl
@[simp] theorem State.enqueue_progOffset (s : State) (w : Word) :
    (s.enqueue w).progOffset = s.progOffset := rfl
@[simp] theorem State.enqueue_txq (s : State) (w : Word) : (s.enqueue w).txq = s.txq ++ [w] := rfl
@[simp] theorem State.enqueue_cpst (s : State) (w : Word) : (s.enqueue w).cpst = s.cpst := rfl
@[simp] theorem State.enqueue_ridx (s : State) (w : Word) : (s.enqueue w).ridx = s.ridx := rfl
@[simp] theorem State.enqueue_osr (s : State) (w : Word) : (s.enqueue w).osr = s.osr := rfl
@[simp] theorem State.enqueue_bcnt (s : State) (w : Word) : (s.enqueue w).bcnt = s.bcnt := rfl
@[simp] theorem State.enqueue_wire (s : State) (w : Word) : (s.enqueue w).wire = s.wire := rfl
@[simp] theorem State.enqueue_dout (s : State) (w : Word) : (s.enqueue w).dout = s.dout := rfl
@[simp] theorem State.enqueue_fault (s : State) (w : Word) : (s.enqueue w).fault = s.fault := rfl
@[simp] theorem State.enqueue_pulses (s : State) (w : Word) : (s.enqueue w).pulses = s.pulses := rfl
@[simp] theorem State.enqueue_hostq (s : State) (w : Word) : (s.enqueue w).hostq = s.hostq := rfl
@[simp] theorem State.enqueue_sched (s : State) (w : Word) : (s.enqueue w).sched = s.sched := rfl
@[simp] theorem State.enqueue_ticks (s : State) (w : Word) : (s.enqueue w).ticks = s.ticks := rfl
@[simp] theorem State.enqueue_draws (s : State) (w : Word) : (s.enqueue w).draws = s.draws := rfl

/-! ### `loadShifter` -/

@[simp] theorem State.loadShifter_pb (s : State) (w : Word) (ws : List Word) :
    (s.loadShifter w ws).pb = s.pb := rfl
@[simp] theorem State.loadShifter_inited (s : State) (w : Word) (ws : List Word) :
    (s.loadShifter w ws).inited = s.inited := rfl
@[simp] theorem State.loadShifter_cfgPin (s : State) (w : Word) (ws : List Word) :
    (s.loadShifter w ws).cfgPin = s.cfgPin := rfl
@[simp] theorem State.loadShifter_cfgRate (s : State) (w : Word) (ws : List Word) :
    (s.loadShifter w ws).cfgRate = s.cfgRate := rfl
@[simp] theorem State.loadShifter_cfgInvert (s : State) (w : Word) (ws : List Word) :
    (s.loadShifter w ws).cfgInvert = s.cfgInvert := rfl
@[simp] theorem State.loadShifter_progOffset (s : State) (w : Word) (ws : List Word) :
    (s.loadShifter w ws).progOffset = s.progOffset := rfl
@[simp] theorem State.loadShifter_txq (s : State) (w : Word) (ws : List Word) :
    (s.loadShifter w ws).txq = ws := rfl
@[simp] theorem State.loadShifter_cpst (s : State) (w : Word) (ws : List Word) :
    (s.loadShifter w ws).cpst = s.cpst := rfl
@[simp] theorem State.loadShifter_ridx (s : State) (w : Word) (ws : List Word) :
    (s.loadShifter w ws).ridx = s.ridx := rfl
@[simp] theorem State.loadShifter_osr (s : State) (w : Word) (ws : List Word) :
    (s.loadShifter w ws).osr = w := rfl
@[simp] theorem State.loadShifter_bcnt (s : State) (w : Word) (ws : List Word) :
    (s.loadShifter w ws).bcnt = 24 := rfl
@[simp] theorem State.loadShifter_wire (s : State) (w : Word) (ws : List Word) :
    (s.loadShifter w ws).wire = s.wire := rfl
@[simp] theorem State.loadShifter_dout (s : State) (w : Word) (ws : List Word) :
    (s.loadShifter w ws).dout = s.dout := rfl
@[simp] theorem State.loadShifter_fault (s : State) (w : Word) (ws : List Word) :
    (s.loadShifter w ws).fault = s.fault := rfl
@[simp] theorem State.loadShifter_pulses (s : State) (w : Word) (ws : List Word) :
    (s.loadShifter w ws).pulses = s.pulses := rfl
@[simp] theorem State.loadShifter_hostq (s : State) (w : Word) (ws : List Word) :
    (s.loadShifter w ws).hostq = s.hostq := rfl
@[simp] theorem State.loadShifter_sched (s : State) (w : Word) (ws : List Word) :
    (s.loadShifter w ws).sched = s.sched := rfl
@[simp] theorem State.loadShifter_ticks (s : State) (w : Word) (ws : List Word) :
    (s.loadShifter w ws).ticks = s.ticks := rfl
@[simp] theorem State.loadShifter_draws (s : State) (w : Word) (ws : List Word) :
    (s.loadShifter w ws).draws = s.draws := rfl

/-! ### `emit` -/

@[simp] theorem State.emit_pb (s : State) (x : Symbol) : (s.emit x).pb = s.pb := rfl
@[simp] theorem State.emit_inited (s : State) (x : Symbol) : (s.emit x).inited = s.inited := rfl
@[simp] theorem State.emit_cfgPin (s : State) (x : Symbol) : (s.emit x).cfgPin = s.cfgPin := rfl
@[simp] theorem State.emit_cfgRate (s : State) (x : Symbol) : (s.emit x).cfgRate = s.cfgRate := rfl
@[simp] theorem State.emit_cfgInvert (s : State) (x : Symbol) :
    (s.emit x).cfgInvert = s.cfgInvert := rfl
@[simp] theorem State.emit_progOffset (s : State) (x : Symbol) :
    (s.emit x).progOffset = s.progOffset := rfl
@[simp] theorem State.emit_txq (s : State) (x : Symbol) : (s.emit x).txq = s.txq := rfl
@[simp] theorem State.emit_cpst (s : State) (x : Symbol) : (s.emit x).cpst = s.cpst := rfl
@[simp] theorem State.emit_ridx (s : State) (x : Symbol) : (s.emit x).ridx = s.ridx := rfl
@[simp] theorem State.emit_osr (s : State) (x : Symbol) : (s.emit x).osr = s.osr := rfl
@[simp] theorem State.emit_bcnt (s : State) (x : Symbol) : (s.emit x).bcnt = s.bcnt := rfl
@[simp] theorem State.emit_wire (s : State) (x : Symbol) : (s.emit x).wire = s.wire ++ [x] := rfl
@[simp] theorem State.emit_dout (s : State) (x : Symbol) :
    (s.emit x).dout = .driven (restLevel s.cfgInvert) := rfl
@[simp] theorem State.emit_fault (s : State) (x : Symbol) : (s.emit x).fault = s.fault := rfl
@[simp] theorem State.emit_pulses (s : State) (x : Symbol) :
    (s.emit x).pulses = s.pulses ++ [pulseOf s.cfgPin s.cfgRate s.cfgInvert x] := rfl
@[simp] theorem State.emit_hostq (s : State) (x : Symbol) : (s.emit x).hostq = s.hostq := rfl
@[simp] theorem State.emit_sched (s : State) (x : Symbol) : (s.emit x).sched = s.sched := rfl
@[simp] theorem State.emit_ticks (s : State) (x : Symbol) : (s.emit x).ticks = s.ticks := rfl
@[simp] theorem State.emit_draws (s : State) (x : Symbol) : (s.emit x).draws = s.draws := rfl

/-! ### `shiftOsr` -/

@[simp] theorem State.shiftOsr_pb (s : State) : (s.shiftOsr).pb = s.pb := rfl
@[simp] theorem State.shiftOsr_inited (s : State) : (s.shiftOsr).inited = s.inited := rfl
@[simp] theorem State.shiftOsr_cfgPin (s : State) : (s.shiftOsr).cfgPin = s.cfgPin := rfl
@[simp] theorem State.shiftOsr_cfgRate (s : State) : (s.shiftOsr).cfgRate = s.cfgRate := rfl
@[simp] theorem State.shiftOsr_cfgInvert (s : State) : (s.shiftOsr).cfgInvert = s.cfgInvert := rfl
@[simp] theorem State.shiftOsr_progOffset (s : State) :
    (s.shiftOsr).progOffset = s.progOffset := rfl
@[simp] theorem State.shiftOsr_txq (s : State) : (s.shiftOsr).txq = s.txq := rfl
@[simp] theorem State.shiftOsr_cpst (s : State) : (s.shiftOsr).cpst = s.cpst := rfl
@[simp] theorem State.shiftOsr_ridx (s : State) : (s.shiftOsr).ridx = s.ridx := rfl
@[simp] theorem State.shiftOsr_osr (s : State) : (s.shiftOsr).osr = s.osr <<< 1 := rfl
@[simp] theorem State.shiftOsr_bcnt (s : State) : (s.shiftOsr).bcnt = s.bcnt - 1 := rfl
@[simp] theorem State.shiftOsr_wire (s : State) : (s.shiftOsr).wire = s.wire := rfl
@[simp] theorem State.shiftOsr_dout (s : State) : (s.shiftOsr).dout = s.dout := rfl
@[simp] theorem State.shiftOsr_fault (s : State) : (s.shiftOsr).fault = s.fault := rfl
@[simp] theorem State.shiftOsr_pulses (s : State) : (s.shiftOsr).pulses = s.pulses := rfl
@[simp] theorem State.shiftOsr_hostq (s : State) : (s.shiftOsr).hostq = s.hostq := rfl
@[simp] theorem State.shiftOsr_sched (s : State) : (s.shiftOsr).sched = s.sched := rfl
@[simp] theorem State.shiftOsr_ticks (s : State) : (s.shiftOsr).ticks = s.ticks := rfl
@[simp] theorem State.shiftOsr_draws (s : State) : (s.shiftOsr).draws = s.draws := rfl

/-! ### `beginRender` -/

@[simp] theorem State.beginRender_pb (s : State) : (s.beginRender).pb = s.pb := rfl
@[simp] theorem State.beginRender_inited (s : State) : (s.beginRender).inited = s.inited := rfl
@[simp] theorem State.beginRender_cfgPin (s : State) : (s.beginRender).cfgPin = s.cfgPin := rfl
@[simp] theorem State.beginRender_cfgRate (s : State) : (s.beginRender).cfgRate = s.cfgRate := rfl
@[simp] theorem State.beginRender_cfgInvert (s : State) :
    (s.beginRender).cfgInvert = s.cfgInvert := rfl
@[simp] theorem State.beginRender_progOffset (s : State) :
    (s.beginRender).progOffset = s.progOffset := rfl
@[simp] theorem State.beginRender_txq (s : State) : (s.beginRender).txq = s.txq := rfl
@[simp] theorem State.beginRender_cpst (s : State) : (s.beginRender).cpst = .rendering := rfl
@[simp] theorem State.beginRender_ridx (s : State) : (s.beginRender).ridx = 0 := rfl
@[simp] theorem State.beginRender_osr (s : State) : (s.beginRender).osr = s.osr := rfl
@[simp] theorem State.beginRender_bcnt (s : State) : (s.beginRender).bcnt = s.bcnt := rfl
@[simp] theorem State.beginRender_wire (s : State) : (s.beginRender).wire = s.wire := rfl
@[simp] theorem State.beginRender_dout (s : State) : (s.beginRender).dout = s.dout := rfl
@[simp] theorem State.beginRender_fault (s : State) : (s.beginRender).fault = s.fault := rfl
@[simp] theorem State.beginRender_pulses (s : State) : (s.beginRender).pulses = s.pulses := rfl
@[simp] theorem State.beginRender_hostq (s : State) : (s.beginRender).hostq = s.hostq := rfl
@[simp] theorem State.beginRender_sched (s : State) : (s.beginRender).sched = s.sched := rfl
@[simp] theorem State.beginRender_ticks (s : State) : (s.beginRender).ticks = s.ticks := rfl
@[simp] theorem State.beginRender_draws (s : State) : (s.beginRender).draws = s.draws := rfl

/-! ### `endPush` -/

@[simp] theorem State.endPush_pb (s : State) : (s.endPush).pb = s.pb := rfl
@[simp] theorem State.endPush_inited (s : State) : (s.endPush).inited = s.inited := rfl
@[simp] theorem State.endPush_cfgPin (s : State) : (s.endPush).cfgPin = s.cfgPin := rfl
@[simp] theorem State.endPush_cfgRate (s : State) : (s.endPush).cfgRate = s.cfgRate := rfl
@[simp] theorem State.endPush_cfgInvert (s : State) : (s.endPush).cfgInvert = s.cfgInvert := rfl
@[simp] theorem State.endPush_progOffset (s : State) : (s.endPush).progOffset = s.progOffset := rfl
@[simp] theorem State.endPush_txq (s : State) : (s.endPush).txq = s.txq := rfl
@[simp] theorem State.endPush_cpst (s : State) :
    (s.endPush).cpst = if s.ridx = 24 then .idle else s.cpst := rfl
@[simp] theorem State.endPush_ridx (s : State) : (s.endPush).ridx = s.ridx + 1 := rfl
@[simp] theorem State.endPush_osr (s : State) : (s.endPush).osr = s.osr := rfl
@[simp] theorem State.endPush_bcnt (s : State) : (s.endPush).bcnt = s.bcnt := rfl
@[simp] theorem State.endPush_wire (s : State) : (s.endPush).wire = s.wire := rfl
@[simp] theorem State.endPush_dout (s : State) : (s.endPush).dout = s.dout := rfl
@[simp] theorem State.endPush_fault (s : State) : (s.endPush).fault = s.fault := rfl
@[simp] theorem State.endPush_pulses (s : State) : (s.endPush).pulses = s.pulses := rfl
@[simp] theorem State.endPush_hostq (s : State) : (s.endPush).hostq = s.hostq := rfl
@[simp] theorem State.endPush_sched (s : State) : (s.endPush).sched = s.sched := rfl
@[simp] theorem State.endPush_ticks (s : State) : (s.endPush).ticks = s.ticks := rfl
@[simp] theorem State.endPush_draws (s : State) : (s.endPush).draws = s.draws := rfl

/-! ### `configureTransmitter` -/

@[simp] theorem State.configureTransmitter_pb (s : State) (p q : Nat) (v : Bool) :
    ((s.configureTransmitter p q v).2).pb = s.pb := rfl
@[simp] theorem State.configureTransmitter_inited (s : State) (p q : Nat) (v : Bool) :
    ((s.configureTransmitter p q v).2).inited = s.inited := rfl
@[simp] theorem State.configureTransmitter_cfgPin (s : State) (p q : Nat) (v : Bool) :
    ((s.configureTransmitter p q v).2).cfgPin = p := rfl
@[simp] theorem State.configureTransmitter_cfgRate (s : State) (p q : Nat) (v : Bool) :
    ((s.configureTransmitter p q v).2).cfgRate = q := rfl
@[simp] theorem State.configureTransmitter_cfgInvert (s : State) (p q : Nat) (v : Bool) :
    ((s.configureTransmitter p q v).2).cfgInvert = v := rfl
@[simp] theorem State.configureTransmitter_progOffset (s : State) (p q : Nat) (v : Bool) :
    ((s.configureTransmitter p q v).2).progOffset = s.progOffset := rfl
@[simp] theorem State.configureTransmitter_txq (s : State) (p q : Nat) (v : Bool) :
    ((s.configureTransmitter p q v).2).txq = s.txq := rfl
@[simp] theorem State.configureTransmitter_cpst (s : State) (p q : Nat) (v : Bool) :
    ((s.configureTransmitter p q v).2).cpst = s.cpst := rfl
@[simp] theorem State.configureTransmitter_ridx (s : State) (p q : Nat) (v : Bool) :
    ((s.configureTransmitter p q v).2).ridx = s.ridx := rfl
@[simp] theorem State.configureTransmitter_osr (s : State) (p q : Nat) (v : Bool) :
    ((s.configureTransmitter p q v).2).osr = s.osr := rfl
@[simp] theorem State.configureTransmitter_bcnt (s : State) (p q : Nat) (v : Bool) :
    ((s.configureTransmitter p q v).2).bcnt = s.bcnt := rfl
@[simp] theorem State.configureTransmitter_wire (s : State) (p q : Nat) (v : Bool) :
    ((s.configureTransmitter p q v).2).wire = s.wire := rfl
@[simp] theorem State.configureTransmitter_dout (s : State) (p q : Nat) (v : Bool) :
    ((s.configureTransmitter p q v).2).dout = .driven (restLevel v) := rfl
@[simp] theorem State.configureTransmitter_fault (s : State) (p q : Nat) (v : Bool) :
    ((s.configureTransmitter p q v).2).fault = s.fault := rfl
@[simp] theorem State.configureTransmitter_pulses (s : State) (p q : Nat) (v : Bool) :
    ((s.configureTransmitter p q v).2).pulses = s.pulses := rfl
@[simp] theorem State.configureTransmitter_hostq (s : State) (p q : Nat) (v : Bool) :
    ((s.configureTransmitter p q v).2).hostq = s.hostq := rfl
@[simp] theorem State.configureTransmitter_sched (s : State) (p q : Nat) (v : Bool) :
    ((s.configureTransmitter p q v).2).sched = s.sched := rfl
@[simp] theorem State.configureTransmitter_ticks (s : State) (p q : Nat) (v : Bool) :
    ((s.configureTransmitter p q v).2).ticks = s.ticks := rfl
@[simp] theorem State.configureTransmitter_draws (s : State) (p q : Nat) (v : Bool) :
    ((s.configureTransmitter p q v).2).draws = s.draws + 1 := rfl

/-! ### `storeConfigured` -/

@[simp] theorem State.storeConfigured_pb (s : State) (o : Nat) :
    (s.storeConfigured o).pb = s.pb := rfl
@[simp] theorem State.storeConfigured_inited (s : State) (o : Nat) :
    (s.storeConfigured o).inited = true := rfl
@[simp] theorem State.storeConfigured_cfgPin (s : State) (o : Nat) :
    (s.storeConfigured o).cfgPin = s.cfgPin := rfl
@[simp] theorem State.storeConfigured_cfgRate (s : State) (o : Nat) :
    (s.storeConfigured o).cfgRate = s.cfgRate := rfl
@[simp] theorem State.storeConfigured_cfgInvert (s : State) (o : Nat) :
    (s.storeConfigured o).cfgInvert = s.cfgInvert := rfl
@[simp] theorem State.storeConfigured_progOffset (s : State) (o : Nat) :
    (s.storeConfigured o).progOffset = o := rfl
@[simp] theorem State.storeConfigured_txq (s : State) (o : Nat) :
    (s.storeConfigured o).txq = s.txq := rfl
@[simp] theorem State.storeConfigured_cpst (s : State) (o : Nat) :
    (s.storeConfigured o).cpst = s.cpst := rfl
@[simp] theorem State.storeConfigured_ridx (s : State) (o : Nat) :
    (s.storeConfigured o).ridx = s.ridx := rfl
@[simp] theorem State.storeConfigured_osr (s : State) (o : Nat) :
    (s.storeConfigured o).osr = s.osr := rfl
@[simp] theorem State.storeConfigured_bcnt (s : State) (o : Nat) :
    (s.storeConfigured o).bcnt = s.bcnt := rfl
@[simp] theorem State.storeConfigured_wire (s : State) (o : Nat) :
    (s.storeConfigured o).wire = s.wire := rfl
@[simp] theorem State.storeConfigured_dout (s : State) (o : Nat) :
    (s.storeConfigured o).dout = s.dout := rfl
@[simp] theorem State.storeConfigured_fault (s : State) (o : Nat) :
    (s.storeConfigured o).fault = s.fault := rfl
@[simp] theorem State.storeConfigured_pulses (s : State) (o : Nat) :
    (s.storeConfigured o).pulses = s.pulses := rfl
@[simp] theorem State.storeConfigured_hostq (s : State) (o : Nat) :
    (s.storeConfigured o).hostq = s.hostq := rfl
@[simp] theorem State.storeConfigured_sched (s : State) (o : Nat) :
    (s.storeConfigured o).sched = s.sched := rfl
@[simp] theorem State.storeConfigured_ticks (s : State) (o : Nat) :
    (s.storeConfigured o).ticks = s.ticks := rfl
@[simp] theorem State.storeConfigured_draws (s : State) (o : Nat) :
    (s.storeConfigured o).draws = s.draws := rfl

/-! ### `setFault` -/

@[simp] theorem State.setFault_pb (s : State) (f : Fault) : (s.setFault f).pb = s.pb := rfl
@[simp] theorem State.setFault_inited (s : State) (f : Fault) :
    (s.setFault f).inited = s.inited := rfl
@[simp] theorem State.setFault_cfgPin (s : State) (f : Fault) :
    (s.setFault f).cfgPin = s.cfgPin := rfl
@[simp] theorem State.setFault_cfgRate (s : State) (f : Fault) :
    (s.setFault f).cfgRate = s.cfgRate := rfl
@[simp] theorem State.setFault_cfgInvert (s : State) (f : Fault) :
    (s.setFault f).cfgInvert = s.cfgInvert := rfl
@[simp] theorem State.setFault_progOffset (s : State) (f : Fault) :
    (s.setFault f).progOffset = s.progOffset := rfl
@[simp] theorem State.setFault_txq (s : State) (f : Fault) : (s.setFault f).txq = s.txq := rfl
@[simp] theorem State.setFault_cpst (s : State) (f : Fault) : (s.setFault f).cpst = s.cpst := rfl
@[simp] theorem State.setFault_ridx (s : State) (f : Fault) : (s.setFault f).ridx = s.ridx := rfl
@[simp] theorem State.setFault_osr (s : State) (f : Fault) : (s.setFault f).osr = s.osr := rfl
@[simp] theorem State.setFault_bcnt (s : State) (f : Fault) : (s.setFault f).bcnt = s.bcnt := rfl
@[simp] theorem State.setFault_wire (s : State) (f : Fault) : (s.setFault f).wire = s.wire := rfl
@[simp] theorem State.setFault_dout (s : State) (f : Fault) : (s.setFault f).dout = s.dout := rfl
@[simp] theorem State.setFault_fault (s : State) (f : Fault) : (s.setFault f).fault = some f := rfl
@[simp] theorem State.setFault_pulses (s : State) (f : Fault) :
    (s.setFault f).pulses = s.pulses := rfl
@[simp] theorem State.setFault_hostq (s : State) (f : Fault) : (s.setFault f).hostq = s.hostq := rfl
@[simp] theorem State.setFault_sched (s : State) (f : Fault) : (s.setFault f).sched = s.sched := rfl
@[simp] theorem State.setFault_ticks (s : State) (f : Fault) : (s.setFault f).ticks = s.ticks := rfl
@[simp] theorem State.setFault_draws (s : State) (f : Fault) : (s.setFault f).draws = s.draws := rfl

/-! ### `load` -/

@[simp] theorem State.load_pb (s : State) (items : List HostItem) : (s.load items).pb = s.pb := rfl
@[simp] theorem State.load_inited (s : State) (items : List HostItem) :
    (s.load items).inited = s.inited := rfl
@[simp] theorem State.load_cfgPin (s : State) (items : List HostItem) :
    (s.load items).cfgPin = s.cfgPin := rfl
@[simp] theorem State.load_cfgRate (s : State) (items : List HostItem) :
    (s.load items).cfgRate = s.cfgRate := rfl
@[simp] theorem State.load_cfgInvert (s : State) (items : List HostItem) :
    (s.load items).cfgInvert = s.cfgInvert := rfl
@[simp] theorem State.load_progOffset (s : State) (items : List HostItem) :
    (s.load items).progOffset = s.progOffset := rfl
@[simp] theorem State.load_txq (s : State) (items : List HostItem) :
    (s.load items).txq = s.txq := rfl
@[simp] theorem State.load_cpst (s : State) (items : List HostItem) :
    (s.load items).cpst = s.cpst := rfl
@[simp] theorem State.load_ridx (s : State) (items : List HostItem) :
    (s.load items).ridx = s.ridx := rfl
@[simp] theorem State.load_osr (s : State) (items : List HostItem) :
    (s.load items).osr = s.osr := rfl
@[simp] theorem State.load_bcnt (s : State) (items : List HostItem) :
    (s.load items).bcnt = s.bcnt := rfl
@[simp] theorem State.load_wire (s : State) (items : List HostItem) :
    (s.load items).wire = s.wire := rfl
@[simp] theorem State.load_dout (s : State) (items : List HostItem) :
    (s.load items).dout = s.dout := rfl
@[simp] theorem State.load_fault (s : State) (items : List HostItem) :
    (s.load items).fault = s.fault := rfl
@[simp] theorem State.load_pulses (s : State) (items : List HostItem) :
    (s.load items).pulses = s.pulses := rfl
@[simp] theorem State.load_hostq (s : State) (items : List HostItem) :
    (s.load items).hostq = items := rfl
@[simp] theorem State.load_sched (s : State) (items : List HostItem) :
    (s.load items).sched = s.sched := rfl
@[simp] theorem State.load_ticks (s : State) (items : List HostItem) :
    (s.load items).ticks = s.ticks := rfl
@[simp] theorem State.load_draws (s : State) (items : List HostItem) :
    (s.load items).draws = s.draws := rfl

/-! ### `takeCommand` -/

@[simp] theorem State.takeCommand_pb (s : State) (items : List HostItem) :
    (s.takeCommand items).pb = s.pb := rfl
@[simp] theorem State.takeCommand_inited (s : State) (items : List HostItem) :
    (s.takeCommand items).inited = s.inited := rfl
@[simp] theorem State.takeCommand_cfgPin (s : State) (items : List HostItem) :
    (s.takeCommand items).cfgPin = s.cfgPin := rfl
@[simp] theorem State.takeCommand_cfgRate (s : State) (items : List HostItem) :
    (s.takeCommand items).cfgRate = s.cfgRate := rfl
@[simp] theorem State.takeCommand_cfgInvert (s : State) (items : List HostItem) :
    (s.takeCommand items).cfgInvert = s.cfgInvert := rfl
@[simp] theorem State.takeCommand_progOffset (s : State) (items : List HostItem) :
    (s.takeCommand items).progOffset = s.progOffset := rfl
@[simp] theorem State.takeCommand_txq (s : State) (items : List HostItem) :
    (s.takeCommand items).txq = s.txq := rfl
@[simp] theorem State.takeCommand_cpst (s : State) (items : List HostItem) :
    (s.takeCommand items).cpst = s.cpst := rfl
@[simp] theorem State.takeCommand_ridx (s : State) (items : List HostItem) :
    (s.takeCommand items).ridx = s.ridx := rfl
@[simp] theorem State.takeCommand_osr (s : State) (items : List HostItem) :
    (s.takeCommand items).osr = s.osr := rfl
@[simp] theorem State.takeCommand_bcnt (s : State) (items : List HostItem) :
    (s.takeCommand items).bcnt = s.bcnt := rfl
@[simp] theorem State.takeCommand_wire (s : State) (items : List HostItem) :
    (s.takeCommand items).wire = s.wire := rfl
@[simp] theorem State.takeCommand_dout (s : State) (items : List HostItem) :
    (s.takeCommand items).dout = s.dout := rfl
@[simp] theorem State.takeCommand_fault (s : State) (items : List HostItem) :
    (s.takeCommand items).fault = s.fault := rfl
@[simp] theorem State.takeCommand_pulses (s : State) (items : List HostItem) :
    (s.takeCommand items).pulses = s.pulses := rfl
@[simp] theorem State.takeCommand_hostq (s : State) (items : List HostItem) :
    (s.takeCommand items).hostq = items := rfl
@[simp] theorem State.takeCommand_sched (s : State) (items : List HostItem) :
    (s.takeCommand items).sched = s.sched := rfl
@[simp] theorem State.takeCommand_ticks (s : State) (items : List HostItem) :
    (s.takeCommand items).ticks = s.ticks := rfl
@[simp] theorem State.takeCommand_draws (s : State) (items : List HostItem) :
    (s.takeCommand items).draws = s.draws := rfl

/-! ### `passTurn` -/

@[simp] theorem State.passTurn_pb (s : State) : (s.passTurn).pb = s.pb := rfl
@[simp] theorem State.passTurn_inited (s : State) : (s.passTurn).inited = s.inited := rfl
@[simp] theorem State.passTurn_cfgPin (s : State) : (s.passTurn).cfgPin = s.cfgPin := rfl
@[simp] theorem State.passTurn_cfgRate (s : State) : (s.passTurn).cfgRate = s.cfgRate := rfl
@[simp] theorem State.passTurn_cfgInvert (s : State) : (s.passTurn).cfgInvert = s.cfgInvert := rfl
@[simp] theorem State.passTurn_progOffset (s : State) :
    (s.passTurn).progOffset = s.progOffset := rfl
@[simp] theorem State.passTurn_txq (s : State) : (s.passTurn).txq = s.txq := rfl
@[simp] theorem State.passTurn_cpst (s : State) : (s.passTurn).cpst = s.cpst := rfl
@[simp] theorem State.passTurn_ridx (s : State) : (s.passTurn).ridx = s.ridx := rfl
@[simp] theorem State.passTurn_osr (s : State) : (s.passTurn).osr = s.osr := rfl
@[simp] theorem State.passTurn_bcnt (s : State) : (s.passTurn).bcnt = s.bcnt := rfl
@[simp] theorem State.passTurn_wire (s : State) : (s.passTurn).wire = s.wire := rfl
@[simp] theorem State.passTurn_dout (s : State) : (s.passTurn).dout = s.dout := rfl
@[simp] theorem State.passTurn_fault (s : State) : (s.passTurn).fault = s.fault := rfl
@[simp] theorem State.passTurn_pulses (s : State) : (s.passTurn).pulses = s.pulses := rfl
@[simp] theorem State.passTurn_hostq (s : State) : (s.passTurn).hostq = s.hostq := rfl
@[simp] theorem State.passTurn_sched (s : State) : (s.passTurn).sched = s.sched.tail := rfl
@[simp] theorem State.passTurn_ticks (s : State) : (s.passTurn).ticks = s.ticks + 1 := rfl
@[simp] theorem State.passTurn_draws (s : State) : (s.passTurn).draws = s.draws := rfl

end Sys2Proof.Machine
end

