-- ==== Sys2Proof/Laws/Ops.lean ====
section
/-! SUPPORT. What the shared operations do: slots, queue, readiness, line levels. -/

namespace Sys2Proof.Machine

/-! ### Pixel buffer -/

@[simp] theorem State.slot_writeSlot_same (s : State) (i : Fin 25) (v : Word) :
    (s.writeSlot i v).slot i = v := by
  simp [State.slot, State.writeSlot]

theorem State.slot_writeSlot_other (s : State) (i j : Fin 25) (v : Word) (h : j ≠ i) :
    (s.writeSlot i v).slot j = s.slot j := by
  have h' : i.val ≠ j.val := fun e => h (Fin.ext e.symm)
  simp [State.slot, State.writeSlot, Vector.getElem_set_ne, h']

@[simp] theorem State.slot_clearSlots (s : State) (i : Fin 25) : s.clearSlots.slot i = 0#32 := by
  simp [State.slot, State.clearSlots]

/-! ### Transmit queue -/

/-- QDEPTH is at least 1 (R27). -/
theorem queueDepth_pos : 0 < Config.queueDepth := Nat.succ_pos _

theorem State.txqHasRoom_iff (s : State) :
    s.txqHasRoom = true ↔ s.txq.length < Config.queueDepth := by
  simp [State.txqHasRoom]

/-- `transmit_blocking` has its push or waits, and there is room when it does not wait (R144). -/
theorem State.transmitBlocking_eq_some (s t : State) (w : Word) :
    s.transmitBlocking w = some t ↔ s.txq.length < Config.queueDepth ∧ t = s.enqueue w := by
  unfold State.transmitBlocking
  split
  · next h => rw [State.txqHasRoom_iff] at h; simp [h, eq_comm]
  · next h => rw [State.txqHasRoom_iff] at h; simp [h]

theorem State.transmitBlocking_eq_none (s : State) (w : Word) :
    s.transmitBlocking w = none ↔ Config.queueDepth ≤ s.txq.length := by
  unfold State.transmitBlocking
  split
  · next h => rw [State.txqHasRoom_iff] at h; simp; omega
  · next h => rw [State.txqHasRoom_iff] at h; simp; omega

/-! ### Readiness -/

@[simp] theorem State.cmdReady_iff (s : State) : s.cmdReady = true ↔ s.cpst = .idle := by
  simp [State.cmdReady]

theorem whenReady_idle (s : State) (m : State → Answer) (h : s.cpst = .idle) :
    whenReady s m = m s := by
  simp [whenReady, State.cmdReady, h]

theorem whenReady_rendering (s : State) (m : State → Answer) (h : s.cpst = .rendering) :
    whenReady s m = .refused .commandNotReady := by
  simp [whenReady, State.cmdReady, h]

theorem whenReady_eq_next (s t : State) (m : State → Answer) :
    whenReady s m = .next t ↔ s.cpst = .idle ∧ m s = .next t := by
  cases h : s.cpst
  · simp [whenReady_idle s m h]
  · simp [whenReady_rendering s m h]

theorem whenReady_eq_fault (s : State) (f : Fault) (m : State → Answer) :
    whenReady s m = .fault f ↔ s.cpst = .idle ∧ m s = .fault f := by
  cases h : s.cpst
  · simp [whenReady_idle s m h]
  · simp [whenReady_rendering s m h]

theorem CpState.idle_or_rendering (c : CpState) : c = .idle ∨ c = .rendering := by
  cases c <;> simp

/-! ### Line levels -/

/-- A pulse always leaves the rest level (R152). -/
theorem activeLevel_ne_restLevel (v : Bool) : activeLevel v ≠ restLevel v := by
  unfold activeLevel restLevel throughInvert
  cases v <;> cases Config.idleLevel <;> decide

/-! ### Times of a pulse -/

theorem tSym_pos : 0 < Config.tSym := by unfold Config.tSym; positivity

/-- A pulse and its rest last one symbol period (R152). -/
@[simp] theorem Pulse.activeTime_add_restTime (p : Pulse) :
    p.activeTime + p.restTime = Config.tSym := by
  rw [Pulse.restTime, add_sub_cancel]

@[simp] theorem pulseOf_nominalPeriod (pin rate : Nat) (invert : Bool) (x : Symbol) :
    (pulseOf pin rate invert x).nominalPeriod = symbolPeriod rate := rfl

end Sys2Proof.Machine
end

