-- ==== Sys2Proof/Laws/Meanings.lean ====
section
/-! SUPPORT. For each meaning, everything it can do: when it answers a next state and which, when it
faults. The push, pull and shift steps likewise. -/

namespace Sys2Proof.Machine

/-- The state INIT leaves (R180, R181, R182). -/
def State.initialised (s : State) : State :=
  (s.configureTransmitter Config.pin Config.rateNominal Config.invert).2.storeConfigured
    (Config.freeProgOffset s.draws)

theorem execInit_eq_next (s t : State) :
    execInit s = .next t ↔ s.cpst = .idle ∧ s.inited = false ∧ t = s.initialised := by
  rw [execInit, whenReady_eq_next]
  cases h : s.inited <;> simp [undefinedBehaviour, State.initialised, eq_comm,
    State.configureTransmitter]

theorem execInit_eq_fault (s : State) (f : Fault) :
    execInit s = .fault f ↔ s.cpst = .idle ∧ s.inited = true ∧ f = .initTwice := by
  rw [execInit, whenReady_eq_fault]
  cases h : s.inited <;> simp [undefinedBehaviour, eq_comm]

theorem execClear_eq_next (s t : State) :
    execClear s = .next t ↔ s.cpst = .idle ∧ t = s.clearSlots := by
  rw [execClear, whenReady_eq_next]; simp [eq_comm]

theorem execClear_ne_fault (s : State) (f : Fault) : execClear s ≠ .fault f := by
  rw [Ne, execClear, whenReady_eq_fault]; simp

/-- SET_PIXEL writes the one slot its coordinates address, or, out of range, nothing (R122, R123). -/
theorem execSetPixel_eq_next (x y : Int) (r g b : Chan) (s t : State) :
    execSetPixel x y r g b s = .next t ↔ s.cpst = .idle ∧ s.inited = true ∧
      ((∃ cx cy, coords? x y = some (cx, cy) ∧ t = s.writeSlot (index cx cy) (pack r g b)) ∨
        (coords? x y = none ∧ t = s)) := by
  rw [execSetPixel, whenReady_eq_next]
  cases h : s.inited
  · simp [undefinedBehaviour]
  · rcases hc : coords? x y with _ | ⟨cx, cy⟩ <;> simp [eq_comm]

theorem execSetPixel_eq_fault (x y : Int) (r g b : Chan) (s : State) (f : Fault) :
    execSetPixel x y r g b s = .fault f ↔
      s.cpst = .idle ∧ s.inited = false ∧ f = .setPixelBeforeInit := by
  rw [execSetPixel, whenReady_eq_fault]
  cases h : s.inited
  · simp [undefinedBehaviour, eq_comm]
  · rcases hc : coords? x y with _ | ⟨cx, cy⟩ <;> simp

theorem execRender_eq_next (s t : State) :
    execRender s = .next t ↔ s.cpst = .idle ∧ s.inited = true ∧ t = s.beginRender := by
  rw [execRender, whenReady_eq_next]
  cases h : s.inited <;> simp [undefinedBehaviour, eq_comm]

theorem execRender_eq_fault (s : State) (f : Fault) :
    execRender s = .fault f ↔ s.cpst = .idle ∧ s.inited = false ∧ f = .renderBeforeInit := by
  rw [execRender, whenReady_eq_fault]
  cases h : s.inited <;> simp [undefinedBehaviour, eq_comm]

/-- Everything a command that gives a next state can be. -/
theorem exec_cases {i : Instr} {s t : State} (h : exec i s = .next t) :
    (i = .init ∧ s.inited = false ∧ t = s.initialised) ∨
    (i = .clear ∧ t = s.clearSlots) ∨
    (∃ x y r g b, i = .setPixel x y r g b ∧ s.inited = true ∧
      ((∃ cx cy, coords? x y = some (cx, cy) ∧ t = s.writeSlot (index cx cy) (pack r g b)) ∨
        (coords? x y = none ∧ t = s))) ∨
    (i = .render ∧ s.inited = true ∧ t = s.beginRender) := by
  cases i with
  | init => exact .inl ⟨rfl, ((execInit_eq_next s t).1 h).2⟩
  | clear => exact .inr (.inl ⟨rfl, ((execClear_eq_next s t).1 h).2⟩)
  | setPixel x y r g b =>
    exact .inr (.inr (.inl ⟨x, y, r, g, b, rfl, ((execSetPixel_eq_next x y r g b s t).1 h).2⟩))
  | render => exact .inr (.inr (.inr ⟨rfl, ((execRender_eq_next s t).1 h).2⟩))

/-- What no command touches when it gives a next state: the transmit path but for the line, FAULT,
the inputs. -/
theorem exec_frame {i : Instr} {s t : State} (h : exec i s = .next t) :
    t.txq = s.txq ∧ t.osr = s.osr ∧ t.bcnt = s.bcnt ∧ t.wire = s.wire ∧ t.fault = s.fault ∧
      t.pulses = s.pulses ∧ t.hostq = s.hostq ∧ t.sched = s.sched ∧ t.ticks = s.ticks := by
  rcases exec_cases h with ⟨-, -, rfl⟩ | ⟨-, rfl⟩ | ⟨x, y, r, g, b, -, -, ⟨cx, cy, -, rfl⟩ | ⟨-, rfl⟩⟩ |
    ⟨-, -, rfl⟩ <;> simp [State.initialised]

/-- A command that gives a next state was put to an idle CP (R33). -/
theorem exec_idle {i : Instr} {s t : State} (h : exec i s = .next t) : s.cpst = .idle := by
  cases i with
  | init => exact ((execInit_eq_next s t).1 h).1
  | clear => exact ((execClear_eq_next s t).1 h).1
  | setPixel x y r g b => exact ((execSetPixel_eq_next x y r g b s t).1 h).1
  | render => exact ((execRender_eq_next s t).1 h).1

/-- A command at rest is never refused (R86). -/
theorem exec_ne_refused (i : Instr) (s : State) (r : Refusal) (h : s.cpst = .idle) :
    exec i s ≠ .refused r := by
  cases i with
  | init => rw [exec, execInit, whenReady_idle s _ h]; cases s.inited <;> simp [undefinedBehaviour]
  | clear => rw [exec, execClear, whenReady_idle s _ h]; simp
  | setPixel x y rr g b =>
    rw [exec, execSetPixel, whenReady_idle s _ h]
    cases s.inited
    · simp [undefinedBehaviour]
    · rcases coords? x y with _ | ⟨cx, cy⟩ <;> simp
  | render =>
    rw [exec, execRender, whenReady_idle s _ h]; cases s.inited <;> simp [undefinedBehaviour]

/-- The push step (R142): inside a RENDER, below 25, with room, and then exactly this. -/
theorem State.push_eq_some (s t : State) :
    s.push = some t ↔ s.cpst = .rendering ∧ s.txq.length < Config.queueDepth ∧
      ∃ h : s.ridx < 25, t = (s.enqueue (transmitWord (s.slot ⟨s.ridx, h⟩))).endPush := by
  unfold State.push
  cases hc : s.cpst
  · simp
  · by_cases h : s.ridx < 25
    · simp only [h, dite_true, Option.map_eq_some_iff, State.transmitBlocking_eq_some]
      constructor
      · rintro ⟨u, ⟨hr, rfl⟩, rfl⟩
        exact ⟨trivial, hr, trivial, rfl⟩
      · rintro ⟨-, hr, -, rfl⟩
        exact ⟨_, ⟨hr, rfl⟩, rfl⟩
    · simp [h]

theorem State.push_eq_none (s : State) (hc : s.cpst = .rendering) (h : s.ridx < 25) :
    s.push = none ↔ Config.queueDepth ≤ s.txq.length := by
  simp [State.push, hc, h, State.transmitBlocking_eq_none]

end Sys2Proof.Machine
end

