-- ==== Sys2Proof/Laws/Operands.lean ====
section
/-! SUPPORT. What the operand functions do: the range check, the mapper, the packer. -/

namespace Sys2Proof.Machine

theorem coord?_eq_some (v : Int) (c : Fin 5) : coord? v = some c ↔ (c.val : Int) = v := by
  unfold coord?
  split
  · rw [Option.some.injEq, Fin.ext_iff]; dsimp only; omega
  · constructor
    · intro h; cases h
    · intro h; omega

theorem coord?_eq_none (v : Int) : coord? v = none ↔ ¬ (0 ≤ v ∧ v ≤ 4) := by
  unfold coord?
  split <;> simp_all

theorem coords?_eq_some (x y : Int) (cx cy : Fin 5) :
    coords? x y = some (cx, cy) ↔ (cx.val : Int) = x ∧ (cy.val : Int) = y := by
  rw [← coord?_eq_some, ← coord?_eq_some]
  unfold coords?
  cases coord? x <;> cases coord? y <;> simp

theorem coords?_eq_none (x y : Int) :
    coords? x y = none ↔ ¬ ((0 ≤ x ∧ x ≤ 4) ∧ (0 ≤ y ∧ y ≤ 4)) := by
  have hx := coord?_eq_none x
  have hy := coord?_eq_none y
  unfold coords?
  cases hcx : coord? x <;> cases hcy : coord? y <;> simp_all

/-- The packed word by bits: blue below, then red, then green, and nothing above (R120). -/
theorem pack_getLsbD (r g b : Chan) (k : Nat) :
    (pack r g b).getLsbD k =
      if k < 8 then b.getLsbD k else if k < 16 then r.getLsbD (k - 8)
      else if k < 24 then g.getLsbD (k - 16) else false := by
  simp only [pack, BitVec.getLsbD_or, BitVec.getLsbD_shiftLeft, BitVec.getLsbD_setWidth]
  have hr : ∀ (c : Chan) (j : Nat), 8 ≤ j → c.getLsbD j = false := fun c j h =>
    BitVec.getLsbD_of_ge c j h
  split
  · next h => simp [h, show k < 16 by omega, show k < 32 by omega]
  · split
    · next h1 h => simp [h, h1, show k < 32 by omega, hr b k (by omega), show k - 8 < 32 by omega]
    · split
      · next h1 h2 h =>
        simp [h1, h2, show k < 32 by omega, hr b k (by omega), hr r (k - 8) (by omega),
          show k - 16 < 32 by omega]
      · next h1 h2 h3 =>
        simp [hr b k (by omega), hr r (k - 8) (by omega), hr g (k - 16) (by omega)]

/-- The packed word by fields (R21, R120). -/
theorem pack_red (r g b : Chan) : (pack r g b).extractLsb' 8 8 = r := by
  ext k hk
  simp only [BitVec.getElem_extractLsb', pack_getLsbD]
  simp [show 8 + k < 16 by omega, ← BitVec.getLsbD_eq_getElem]

theorem pack_green (r g b : Chan) : (pack r g b).extractLsb' 16 8 = g := by
  ext k hk
  simp only [BitVec.getElem_extractLsb', pack_getLsbD]
  simp [show ¬ 16 + k < 8 by omega, show 16 + k < 24 by omega, ← BitVec.getLsbD_eq_getElem]

theorem pack_blue (r g b : Chan) : (pack r g b).extractLsb' 0 8 = b := by
  ext k hk
  simp only [BitVec.getElem_extractLsb', pack_getLsbD]
  simp [hk]

theorem pack_upper (r g b : Chan) : (pack r g b).extractLsb' 24 8 = 0#8 := by
  ext k hk
  simp only [BitVec.getElem_extractLsb', pack_getLsbD]
  simp [show ¬ 24 + k < 8 by omega, show ¬ 24 + k < 16 by omega]

/-- The transmit word by bits: the slot value 8 places up, zeros below (R145). -/
theorem transmitWord_getLsbD (v : Word) (k : Nat) :
    (transmitWord v).getLsbD k = (decide (k < 32) && !decide (k < 8) && v.getLsbD (k - 8)) := by
  simp [transmitWord, BitVec.getLsbD_shiftLeft]

/-- The padding of a transmit word is zero (R145). -/
theorem transmitWord_padding (v : Word) : (transmitWord v).extractLsb' 0 8 = 0#8 := by
  ext k hk
  simp only [BitVec.getElem_extractLsb', transmitWord_getLsbD]
  simp [hk]

end Sys2Proof.Machine
end

