-- ==== Sys2Proof/Laws/PerInstr.lean ====
section
/-! SUPPORT. Statements about every instruction as syntax, one lemma per constructor. Family
`OpcodeField`: bits [31:30] of the encoded word are the opcode of R81. -/

namespace Sys2Proof.Laws.OpcodeField

/-- The opcode map of R81. -/
def opcode : Instr → BitVec 2
  | .init => 0b00#2
  | .clear => 0b01#2
  | .setPixel _ _ _ _ _ => 0b10#2
  | .render => 0b11#2

/-- The OP field of the encoded word is the command's opcode, well formed or not. -/
def Statement (i : Instr) : Prop := (encode i).extractLsb' 30 2 = opcode i

theorem init : Statement .init := by unfold Statement; decide

theorem clear : Statement .clear := by unfold Statement; decide

theorem setPixel (x y : Int) (r g b : Chan) : Statement (.setPixel x y r g b) := by
  show (0b10#2 ++ BitVec.ofInt 3 x ++ BitVec.ofInt 3 y ++ r ++ g ++ b).extractLsb' 30 2 = 0b10#2
  ext k hk
  simp only [BitVec.getElem_extractLsb', BitVec.getLsbD_append]
  have hk' : k = 0 ∨ k = 1 := by omega
  rcases hk' with rfl | rfl <;> simp

theorem render : Statement .render := by unfold Statement; decide

end Sys2Proof.Laws.OpcodeField
end

