-- ==== Sys2Proof/Laws/Step.lean ====
section
/-! SUPPORT. Everything one step can do, said once: `step_cases` for a next state, `step_eq_fault`
for a fault. Claims about steps go through these. -/

namespace Sys2Proof.Machine

/-- The step of SER (R149, R150): a shift, or a pull between words. -/
theorem serStep_eq_some (s t : State) :
    serStep s = some t ↔ s.inited = true ∧
      ((0 < s.bcnt ∧ t = s.shift) ∨
        (s.bcnt = 0 ∧ ∃ w ws, s.txq = w :: ws ∧ t = s.loadShifter w ws)) := by
  unfold serStep
  cases hi : s.inited
  · simp
  · by_cases hb : 0 < s.bcnt
    · simp [hb, eq_comm, show s.bcnt ≠ 0 by omega]
    · have h0 : s.bcnt = 0 := by omega
      unfold State.pull
      rcases hq : s.txq with _ | ⟨w, ws⟩ <;> simp [h0, eq_comm]

theorem serStep_eq_none (s : State) :
    serStep s = none ↔ s.inited = false ∨ (s.bcnt = 0 ∧ s.txq = []) := by
  unfold serStep
  cases hi : s.inited
  · simp
  · by_cases hb : 0 < s.bcnt
    · simp [hb, show s.bcnt ≠ 0 by omega]
    · have h0 : s.bcnt = 0 := by omega
      unfold State.pull
      rcases hq : s.txq with _ | ⟨w, ws⟩ <;> simp [h0]

/-- CP at rest accepts the command presented (R33). -/
theorem cpStep_idle (s : State) (c : HostItem) (rest : List HostItem) (hc : s.cpst = .idle)
    (hq : s.hostq = c :: rest) : cpStep s = some (exec c.instr (s.takeCommand rest)) := by
  simp [cpStep, hc, acceptStep, hq]

theorem cpStep_eq_some (s : State) (o : Answer) :
    cpStep s = some o ↔
      (s.cpst = .idle ∧ ∃ c rest, s.hostq = c :: rest ∧ o = exec c.instr (s.takeCommand rest)) ∨
      (s.cpst = .rendering ∧ ∃ t, s.push = some t ∧ o = .next t) := by
  unfold cpStep
  cases hc : s.cpst
  · unfold acceptStep
    rcases hq : s.hostq with _ | ⟨c, rest⟩ <;> simp [eq_comm]
  · simp [eq_comm]

theorem cpStep_eq_none (s : State) :
    cpStep s = none ↔
      (s.cpst = .idle ∧ s.hostq = []) ∨ (s.cpst = .rendering ∧ s.push = none) := by
  unfold cpStep
  cases hc : s.cpst
  · unfold acceptStep
    rcases hq : s.hostq with _ | ⟨c, rest⟩ <;> simp
  · simp

/-- Settling the turn changes what neither agent's enabling reads. -/
@[simp] theorem cpStep_passTurn_eq_none (s : State) :
    cpStep s.passTurn = none ↔ cpStep s = none := by
  have hp : s.passTurn.push = none ↔ s.push = none := by
    cases hc : s.cpst
    · simp [State.push, hc]
    · by_cases h : s.ridx < 25
      · rw [State.push_eq_none s hc h, State.push_eq_none s.passTurn hc h]; simp
      · simp [State.push, hc, h]
  simp [cpStep_eq_none, hp]

@[simp] theorem serStep_passTurn_eq_none (s : State) :
    serStep s.passTurn = none ↔ serStep s = none := by
  simp [serStep_eq_none]

/-- One turn is the step of an agent whose turn it is, or whose fellow has no step (log 1). -/
theorem turnStep_eq_some (s : State) (o : Answer) :
    turnStep s = some o ↔
      (cpStep s.passTurn = some o ∧ (s.turn = .cp ∨ serStep s = none)) ∨
      (∃ t, serStep s.passTurn = some t ∧ o = .next t ∧ (s.turn = .ser ∨ cpStep s = none)) := by
  rw [← serStep_passTurn_eq_none s, ← cpStep_passTurn_eq_none s]
  unfold turnStep
  generalize s.turn = a, hc : cpStep s.passTurn = c, hr : serStep s.passTurn = r
  cases a <;> cases c <;> cases r <;> simp [agentStep, otherAgent, hc, hr, eq_comm]

theorem turnStep_eq_none (s : State) :
    turnStep s = none ↔ cpStep s = none ∧ serStep s = none := by
  rw [← serStep_passTurn_eq_none s, ← cpStep_passTurn_eq_none s]
  unfold turnStep
  generalize hc : cpStep s.passTurn = c, hr : serStep s.passTurn = r
  cases s.turn <;> cases c <;> cases r <;> simp [agentStep, otherAgent, hc, hr]

/-- Everything a step to a next state can be: rest, an accepted command, a push, a shift, a pull. -/
theorem step_cases {s t : State} (h : step s = .next t) :
    s.fault = none ∧
    ((t = s ∧ cpStep s = none ∧ serStep s = none) ∨
     (s.cpst = .idle ∧ ∃ c rest, s.hostq = c :: rest ∧
        exec c.instr (s.passTurn.takeCommand rest) = .next t) ∨
     (s.cpst = .rendering ∧ s.txq.length < Config.queueDepth ∧ ∃ hr : s.ridx < 25,
        t = (s.passTurn.enqueue (transmitWord (s.slot ⟨s.ridx, hr⟩))).endPush) ∨
     (s.inited = true ∧ 0 < s.bcnt ∧ t = s.passTurn.shift) ∨
     (s.inited = true ∧ s.bcnt = 0 ∧ ∃ w ws, s.txq = w :: ws ∧ t = s.passTurn.loadShifter w ws)) := by
  unfold step at h
  cases hf : s.fault with
  | some f => simp [hf] at h
  | none =>
    refine ⟨rfl, ?_⟩
    simp only [hf] at h
    cases ho : turnStep s with
    | none =>
      simp only [ho, Host.Outcome.next.injEq] at h
      exact .inl ⟨h.symm, (turnStep_eq_none s).1 ho⟩
    | some o =>
      simp only [ho] at h
      subst h
      refine .inr ?_
      rcases (turnStep_eq_some s _).1 ho with ⟨hc, -⟩ | ⟨u, hu, he, -⟩
      · rcases (cpStep_eq_some _ _).1 hc with ⟨hi, c, rest, hq, he⟩ | ⟨hr, u, hp, he⟩
        · exact .inl ⟨hi, c, rest, hq, he.symm⟩
        · obtain ⟨-, hl, hlt, rfl⟩ := (State.push_eq_some _ _).1 hp
          cases he
          exact .inr (.inl ⟨hr, hl, hlt, rfl⟩)
      · cases he
        rcases (serStep_eq_some _ _).1 hu with ⟨hi, ⟨hb, rfl⟩ | ⟨hb, w, ws, hq, rfl⟩⟩
        · exact .inr (.inr (.inl ⟨hi, hb, rfl⟩))
        · exact .inr (.inr (.inr ⟨hi, hb, w, ws, hq, rfl⟩))

/-- A fault is the sticky one or that of a command CP takes (R31, R206). -/
theorem step_eq_fault (s : State) (f : Fault) :
    step s = .fault f ↔ s.fault = some f ∨
      (s.fault = none ∧ s.cpst = .idle ∧ (s.turn = .cp ∨ serStep s = none) ∧
        ∃ c rest, s.hostq = c :: rest ∧ exec c.instr (s.passTurn.takeCommand rest) = .fault f) := by
  unfold step
  cases hf : s.fault with
  | some f' => simp
  | none =>
    cases ho : turnStep s with
    | none =>
      have hn := (turnStep_eq_none s).1 ho
      simp only [reduceCtorEq, false_or, true_and, false_iff]
      rintro ⟨hi, -, c, rest, hq, -⟩
      rcases (cpStep_eq_none s).1 hn.1 with ⟨-, h0⟩ | ⟨h0, -⟩
      · simp [hq] at h0
      · simp [hi] at h0
    | some o =>
      simp only [reduceCtorEq, false_or, true_and]
      constructor
      · rintro rfl
        rcases (turnStep_eq_some s _).1 ho with ⟨hc, ht⟩ | ⟨u, -, he, -⟩
        · rcases (cpStep_eq_some _ _).1 hc with ⟨hi, c, rest, hq, he⟩ | ⟨-, u, -, he⟩
          · exact ⟨hi, ht, c, rest, hq, he.symm⟩
          · cases he
        · cases he
      · rintro ⟨hi, ht, c, rest, hq, he⟩
        have hc : cpStep s.passTurn = some (exec c.instr (s.passTurn.takeCommand rest)) :=
          cpStep_idle s.passTurn c rest hi hq
        have h2 := (turnStep_eq_some s _).2 (.inl ⟨hc, ht⟩)
        rw [ho] at h2
        cases h2
        exact he

end Sys2Proof.Machine
end

