-- ==== Sys2Proof/Laws/Wire.lean ====
section
/-! SUPPORT. Small lemmas of the symbol sequences in Safety: lengths, the symbols of a transmit word,
one shift, one push. -/

namespace Sys2Proof.Machine

@[simp] theorem bits24_length (v : Word) : (bits24 v).length = 24 := by simp [bits24]

@[simp] theorem leadingSymbols_length (w : Word) (n : Nat) : (leadingSymbols w n).length = n := by
  simp [leadingSymbols]

@[simp] theorem leadingSymbols_zero (w : Word) : leadingSymbols w 0 = [] := rfl

/-- The 24 symbols of a transmit word are those of its slot value (R145, R150). -/
theorem leadingSymbols_transmitWord (v : Word) :
    leadingSymbols (transmitWord v) 24 = bits24 v := by
  unfold leadingSymbols bits24
  apply List.map_congr_left
  intro k hk
  simp only [List.mem_range] at hk
  rw [transmitWord_getLsbD]
  simp [show 31 - k < 32 by omega, show ¬ 31 - k < 8 by omega, show 31 - k - 8 = 23 - k by omega]

/-- One shift takes the first of the leading symbols (R150). -/
theorem leadingSymbols_shift (w : Word) (n : Nat) (hn : 0 < n) (h : n ≤ 24) :
    leadingSymbols w n = sym (w.getLsbD 31) :: leadingSymbols (w <<< 1) (n - 1) := by
  obtain ⟨m, rfl⟩ : ∃ m, n = m + 1 := ⟨n - 1, by omega⟩
  unfold leadingSymbols
  rw [List.range_succ_eq_map]
  simp only [List.map_cons, List.map_map, Nat.sub_zero, Nat.add_sub_cancel]
  congr 1
  apply List.map_congr_left
  intro k hk
  simp only [List.mem_range] at hk
  simp [show 31 - k < 32 by omega, show ¬ 31 - k = 0 by omega,
    show 31 - (k + 1) = 31 - k - 1 by omega, -BitVec.getLsbD_eq_getElem]

/-- The slots from RIDX on begin with the slot RIDX names (R142). -/
theorem State.slots_from (s : State) (h : s.ridx < 25) :
    s.pb.toList.drop s.ridx = s.slot ⟨s.ridx, h⟩ :: s.pb.toList.drop (s.ridx + 1) := by
  rw [List.drop_eq_getElem_cons (by simpa using h)]
  simp [State.slot]

/-- A symbol for each bit of a channel. -/
@[simp] theorem chanSymbols_length (c : Chan) : (chanSymbols c).length = 8 := by simp [chanSymbols]

/-- The symbols of a slot value are those of the pixel it holds: green, red, blue (R52, R53). -/
theorem bits24_eq_rgb (v : Word) :
    bits24 v =
      Rgb.symbols ⟨v.extractLsb' 8 8, v.extractLsb' 16 8, v.extractLsb' 0 8⟩ := by
  simp [bits24, Rgb.symbols, chanSymbols, List.range, List.range.loop]

end Sys2Proof.Machine
end

