-- ==== Sys2Proof/Tests/Slice0.lean ====
section
/-! SUPPORT. Small checks against the worked values of the spec (95_test_vectors.md and the worked
examples of the rules), and for each statement of Certificates/Slice0/Obligations.lean that has
hypotheses a witness that meets them. Expected values are the spec's, not the model's. -/

namespace Sys2Proof.Tests

open Sys2Proof.Machine

/-- The next state of an answer. -/
def nextOf : Answer → Option State
  | .next t => some t
  | .fault _ => none
  | .refused _ => none

/-- The fault of an answer. -/
def faultOf : Answer → Option Fault
  | .next _ => none
  | .fault f => some f
  | .refused _ => none

/-- The block after INIT, as R180 leaves it. -/
def ready : State :=
  { State.reset with
    inited := true
    cfgPin := Config.pin
    cfgRate := Config.rateNominal
    cfgInvert := Config.invert
    dout := .driven (restLevel Config.invert) }

/-- Inside a RENDER, about to push slot `k`. -/
def renderingAt (k : Nat) : State := { ready with cpst := .rendering, ridx := k }

/-- A word of section 2.3 in the queue. -/
def queued (w : Word) : State := { ready with txq := [w] }

/-! ### WellFormed: each check refuses its ill-formed term (R84, R91) -/

theorem test_wf_ok : (Instr.setPixel 0 7 1#8 2#8 3#8).wellFormed = true := by decide

theorem test_wf_x_negative : (Instr.setPixel (-1) 0 1#8 2#8 3#8).wellFormed = false := by decide

theorem test_wf_x_above : (Instr.setPixel 8 0 1#8 2#8 3#8).wellFormed = false := by decide

theorem test_wf_y_negative : (Instr.setPixel 0 (-1) 1#8 2#8 3#8).wellFormed = false := by decide

theorem test_wf_y_above : (Instr.setPixel 0 8 1#8 2#8 3#8).wellFormed = false := by decide

/-! ### Decoding: words written out from R81 to R83 and section 2.4 -/

theorem test_decode_init : decode 0b00_000000000000000000000000000000#32 = .init := by decide

theorem test_decode_init_reserved : decode 0b00_111111111111111111111111111111#32 = .init := by
  decide

theorem test_decode_clear : decode 0b01_000000000000000000000000000000#32 = .clear := by decide

theorem test_decode_set_pixel :
    decode 0b10_011_001_00010011_00100011_00110011#32 = .setPixel 3 1 0x13#8 0x23#8 0x33#8 := by
  decide

theorem test_decode_set_pixel_2_2 :
    decode 0x92123456#32 = .setPixel 2 2 0x12#8 0x34#8 0x56#8 := by decide

theorem test_decode_render : decode 0b11_000000000000000000000000000000#32 = .render := by decide

theorem test_encode_set_pixel :
    encode (.setPixel 4 0 0x14#8 0x24#8 0x34#8) = 0xA0142434#32 := by decide

theorem test_table_word : decodeTableWord 32 0xC0000000 = some .render := by decide

/-! ### Assembler (R91), program P2 of section 3 -/

theorem test_asm_line :
    assembleLine "SET_PIXEL 1, 3, 0x11, 0x21, 0x31    # 0x8B112131   slot 8".toList =
      .command (.setPixel 1 3 0x11#8 0x21#8 0x31#8) := by decide

theorem test_asm_program :
    assemble ["INIT # first".toList, [], "set_pixel 0, 0, 255, 0, 128".toList,
      "render".toList] = some [0x00000000#32, 0x80FF0080#32, 0xC0000000#32] := by decide

theorem test_asm_refuses_coordinate : assembleLine "SET_PIXEL 8,0,1,1,1".toList = .refused := by
  decide

theorem test_asm_refuses_channel : assembleLine "SET_PIXEL 0,0,256,1,1".toList = .refused := by
  decide

/-! ### Operands: sections 2.1 and 2.2 -/

theorem test_index_points :
    index 0 0 = 20 ∧ index 4 0 = 24 ∧ index 0 4 = 0 ∧ index 4 4 = 4 ∧ index 2 2 = 12 ∧
      index 0 3 = 9 ∧ index 4 3 = 5 ∧ index 1 1 = 18 := by decide

theorem test_coord_edges :
    coord? (-1) = none ∧ coord? 0 = some 0 ∧ coord? 4 = some 4 ∧ coord? 5 = none ∧
      coord? 1000 = none := by decide

theorem test_pack_word :
    pack 0x12#8 0x34#8 0x56#8 = 0x00341256#32 ∧
      transmitWord (pack 0x12#8 0x34#8 0x56#8) = 0x34125600#32 := by decide

theorem test_symbols_of_slot :
    bits24 0x0000FF80#32 = List.replicate 8 .s0 ++ List.replicate 8 .s1 ++ [.s1] ++
      List.replicate 7 .s0 := by decide

/-! ### Commands: sections 2.5, 2.6, 2.7 -/

theorem test_init_configures :
    ((nextOf (step (State.reset.withFetchWord 32 0x00000000))).map fun t =>
      (t.inited, t.cfgRate, t.txq, t.wire)) = some (true, 800000, [], []) := by decide

theorem test_init_twice : faultOf (step (ready.withFetchWord 32 0x3FFFFFFF)) = some .initTwice := by
  decide

theorem test_clear_before_init :
    (nextOf (step ((State.reset.writeSlot 20 0x0000FF80#32).withFetchWord 32 0x40000000))).map
      State.pb = some (Vector.replicate 25 0#32) := by decide

theorem test_clear_keeps_queue :
    (nextOf (exec .clear (queued 0x00FF8000#32))).map State.txq = some [0x00FF8000#32] := by decide

theorem test_set_pixel_slot_20 :
    (nextOf (step (ready.withFetchWord 32 0x80FF0080))).map State.pb =
      some (ready.pb.set 20 0x0000FF80#32) := by decide

theorem test_set_pixel_negative_is_no_op :
    (nextOf (exec (.setPixel (-1) 0 1#8 2#8 3#8) ready)).map State.pb = some ready.pb := by decide

theorem test_set_pixel_out_of_range_before_init :
    faultOf (step (State.reset.withFetchWord 32 0xA8010101)) = some .setPixelBeforeInit := by decide

theorem test_render_accept :
    (nextOf (step (ready.withFetchWord 32 0xFFFFFFFF))).map (fun t => (t.cpst, t.ridx, t.txq)) =
      some (.rendering, 0, []) := by decide

theorem test_render_before_init :
    faultOf (step (State.reset.withFetchWord 32 0xC0000000)) = some .renderBeforeInit := by decide

/-- The 25th push returns CP to IDLE with RIDX = 25 (R142, P1). -/
theorem test_last_push :
    ((renderingAt 24).writeSlot 24 0x00FFFFFF#32).push.map (fun t => (t.cpst, t.ridx, t.txq)) =
      some (.idle, 25, [0xFFFFFF00#32]) := by decide

/-! ### Serialiser: section 2.3 -/

theorem test_pull :
    (serStep (queued 0x34125600#32)).map (fun t => (t.osr, t.bcnt, t.txq)) =
      some (0x34125600#32, 24, []) := by decide

theorem test_shift_twice :
    (serRun 3 (queued 0x34125600#32)).map (fun t => (t.osr, t.bcnt, t.wire)) =
      some (0xD0495800#32, 22, [.s0, .s0]) := by decide

theorem test_no_serialiser_before_init :
    (serStep { State.reset with txq := [0x34125600#32], bcnt := 3 }).isNone = true := by decide

/-- A word no RENDER makes, sent as 0xDEADBE; the byte 0xEF stays behind (R151). -/
theorem test_padding_discarded :
    (serRun 25 (queued 0xDEADBEEF#32)).map (fun t => (t.osr, t.bcnt, t.wire)) =
      some (0xEF000000#32, 0, bits24 0x00DEADBE#32) := by decide

/-- Section 2.6: a run INIT, SET_PIXEL, RENDER takes 653 steps. -/
theorem test_work_of_p1 :
    (State.reset.load [.word 0x00000000#32, .word 0x80FF0080#32, .word 0xC0000000#32]).work = 653 := by
  decide

/-- R232: P5a and P5c are outside the grammar, P2's shape is inside. -/
theorem test_grammar :
    legalSequence [.setPixel 0 0 1#8 2#8 3#8, .init] = false ∧
      legalSequence [.init, .setPixel 0 0 1#8 1#8 1#8, .render, .init] = false ∧
      legalSequence [.clear, .init, .setPixel 5 0 1#8 1#8 1#8, .render] = true := by decide

/-! ### Witnesses: each statement's hypotheses can be met -/

/-- The invariant holds of the configured, quiescent block. -/
theorem witness_ready_inv : ready.Inv where
  slots := by decide
  padding := by intro w hw; cases hw
  capacity := Nat.zero_le _
  ridx := by decide
  rendering := by intro h; cases h
  bcnt := by decide
  osr := by intro h; cases h
  before := by intro h; cases h
  configured := fun _ => ⟨rfl, rfl, rfl, rfl⟩
  pulses := rfl

/-- And of a block that waits inside a RENDER on a full queue of depth QDEPTH. -/
def waiting : State := { renderingAt 3 with txq := List.replicate Config.queueDepth 0#32 }

theorem witness_waiting_inv : waiting.Inv where
  slots := witness_ready_inv.slots
  padding := by intro w hw; rw [(List.mem_replicate.1 hw).2]; decide
  capacity := by simp [waiting]
  ridx := by decide
  rendering := fun _ => by decide
  bcnt := by decide
  osr := by intro h; cases h
  before := by intro h; cases h
  configured := fun _ => ⟨rfl, rfl, rfl, rfl⟩
  pulses := rfl

/-- And in the middle of a word: 3 bits sent of one whose 24 bits are ones. -/
def sending : State :=
  { ready with osr := 0xFFFFF800#32, bcnt := 21, wire := [.s1, .s1, .s1],
               pulses := [.s1, .s1, .s1].map (pulseOf Config.pin Config.rateNominal Config.invert) }

theorem witness_sending_inv : sending.Inv where
  slots := witness_ready_inv.slots
  padding := by intro w hw; cases hw
  capacity := Nat.zero_le _
  ridx := by decide
  rendering := by intro h; cases h
  bcnt := by decide
  osr := fun _ => by decide
  before := by intro h; cases h
  configured := fun _ => ⟨rfl, rfl, rfl, rfl⟩
  pulses := rfl

theorem witness_DecoderReadsEveryWordByItsFields :
    (0x3FFFFFFF#32).extractLsb' 30 2 = 0b00#2 ∧ (0x40000000#32).extractLsb' 30 2 = 0b01#2 ∧
      (0xBFFFFFFF#32).extractLsb' 30 2 = 0b10#2 ∧ (0xC0000000#32).extractLsb' 30 2 = 0b11#2 := by
  decide

theorem witness_DecodeOfEncodeIsTheCommand :
    (Instr.setPixel 7 0 255#8 0#8 1#8).wellFormed = true := by decide

theorem witness_AssemblerReadsFiveOperandsInOrder :
    operandValue " 7".toList = some 7 ∧ operandValue "8".toList = some 8 ∧
      operandValue "255".toList = some 255 ∧ operandValue "256 ".toList = some 256 ∧
      operandValue "0x0".toList = some 0 := by decide

theorem witness_AssemblerAcceptsOnlyWhatAWordSpells :
    assembleLine "SET_PIXEL 7, 0, 255, 0, 1".toList = .command (.setPixel 7 0 255#8 0#8 1#8) := by
  decide

theorem witness_MapperFollowsTheSerpentineRule :
    (4 - (4 : Fin 5).val) % 2 = 0 ∧ (4 - (3 : Fin 5).val) % 2 = 1 := by decide

theorem witness_PackerPutsGreenRedBlue : pack 1#8 2#8 3#8 = pack 1#8 2#8 3#8 := rfl

theorem witness_TransmitWordIsTheColourWordLeftAligned :
    (0x00FFFFFF#32).extractLsb' 24 8 = 0#8 := by decide

theorem witness_InitConfiguresTheTransmitter :
    State.reset.cpst = .idle ∧ State.reset.inited = false := by decide

theorem witness_SecondInitIsUndefined : ready.cpst = .idle ∧ ready.inited = true := by decide

theorem witness_ClearZeroesEverySlotAndNothingElse : (queued 1#32).cpst = .idle := by decide

/-- The four corners of the coordinates, and both parities of row'. -/
theorem witness_SetPixelStoresThePackedWordInItsSlot :
    ready.cpst = .idle ∧ ready.inited = true ∧
      (∀ x ∈ [(0 : Int), 4], ∀ y ∈ [(0 : Int), 3, 4], 0 ≤ x ∧ x ≤ 4 ∧ 0 ≤ y ∧ y ≤ 4) := by decide

theorem witness_SetPixelOutOfRangeChangesNothing :
    ready.cpst = .idle ∧ ready.inited = true ∧
      (∀ p ∈ [((-1 : Int), (0 : Int)), (5, 0), (0, -1), (0, 5), (5, 5)],
        p.1 < 0 ∨ 4 < p.1 ∨ p.2 < 0 ∨ 4 < p.2) := by decide

theorem witness_SetPixelBeforeInitIsUndefined :
    State.reset.cpst = .idle ∧ State.reset.inited = false := by decide

theorem witness_RenderIsAccepted : ready.cpst = .idle ∧ ready.inited = true := by decide

theorem witness_RenderBeforeInitIsUndefined :
    State.reset.cpst = .idle ∧ State.reset.inited = false := by decide

theorem witness_PushStepQueuesTheNextSlotOrWaits_push :
    (renderingAt 24).ridx < 25 ∧ (renderingAt 24).cpst = .rendering ∧
      (renderingAt 24).txq.length < Config.queueDepth :=
  ⟨by decide, rfl, queueDepth_pos⟩

theorem witness_PushStepQueuesTheNextSlotOrWaits_wait :
    waiting.ridx < 25 ∧ waiting.cpst = .rendering ∧ Config.queueDepth ≤ waiting.txq.length :=
  ⟨by decide, rfl, by simp [waiting]⟩

/-- A step from inside a RENDER to its end. -/
theorem witness_RenderCompletesExactlyAtThe25thPush :
    ∃ t, (renderingAt 24).cpst = .rendering ∧ step (renderingAt 24) = .next t ∧ t.cpst = .idle := by
  have h : cpStep (renderingAt 24).passTurn =
      some (.next ((renderingAt 24).passTurn.enqueue 0#32).endPush) :=
    (cpStep_eq_some _ _).2 (.inr ⟨rfl, _,
      (State.push_eq_some _ _).2 ⟨rfl, queueDepth_pos, by decide, rfl⟩, rfl⟩)
  have ht := (turnStep_eq_some (renderingAt 24) _).2 (.inl ⟨h, .inr rfl⟩)
  exact ⟨_, rfl, by unfold step; rw [ht]; rfl, rfl⟩

theorem witness_NothingIsAcceptedWhileRendering :
    ∃ t, (renderingAt 24).cpst = .rendering ∧ step (renderingAt 24) = .next t :=
  let ⟨t, h1, h2, _⟩ := witness_RenderCompletesExactlyAtThe25thPush
  ⟨t, h1, h2⟩

theorem witness_CommandWhileNotReadyHasNoMove : (renderingAt 0).cpst = .rendering := rfl

theorem witness_SerialiserPullsTheHeadOfTheQueue :
    (queued 1#32).inited = true ∧ (queued 1#32).bcnt = 0 ∧ (queued 1#32).txq = [1#32] ∧
      State.reset.inited = false ∧ State.reset.bcnt = 0 ∧ State.reset.txq = [] := by decide

/-- Between the first and the last bit of a word, and at the last one. -/
theorem witness_SerialiserShiftsOutTheTopBit :
    ({ ready with bcnt := 1 } : State).inited = true ∧ 0 < ({ ready with bcnt := 1 } : State).bcnt ∧
      0 < ({ ready with bcnt := 24 } : State).bcnt := by decide

theorem witness_WordIsSentMostSignificantFirstWithoutPadding :
    (queued 0xDEADBEEF#32).inited = true ∧ (queued 0xDEADBEEF#32).bcnt = 0 ∧
      (queued 0xDEADBEEF#32).txq = [0xDEADBEEF#32] := by decide

theorem witness_EverySymbolIsOnePulseOfItsWidth :
    (∃ t, serStep { ready with bcnt := 1 } = some t) ∧ ∃ t, serStep (queued 1#32) = some t :=
  ⟨⟨_, rfl⟩, ⟨_, rfl⟩⟩

theorem witness_CommandsChangeOnlyTheirOwnState :
    (∃ t, exec .init State.reset = .next t) ∧ (∃ t, exec .clear ready = .next t) ∧
      (∃ t, exec (.setPixel 4 4 1#8 2#8 3#8) ready = .next t) ∧
      (∃ t, exec (.setPixel 5 4 1#8 2#8 3#8) ready = .next t) ∧
      (∃ t, exec .render ready = .next t) :=
  ⟨⟨_, rfl⟩, ⟨_, rfl⟩, ⟨_, rfl⟩, ⟨_, rfl⟩, ⟨_, rfl⟩⟩

theorem witness_AgentsChangeOnlyTheirOwnState :
    (∃ t, (renderingAt 24).push = some t) ∧ ∃ t, serStep (queued 1#32) = some t :=
  ⟨⟨_, (State.push_eq_some _ _).2 ⟨rfl, queueDepth_pos, by decide, rfl⟩⟩, ⟨_, rfl⟩⟩

theorem witness_StepRunsTheCommandPresented :
    (ready.load [.word 0xC0000000#32]).fault = none ∧
      (ready.load [.word 0xC0000000#32]).cpst = .idle ∧
      (ready.load [.word 0xC0000000#32]).hostq = [.word 0xC0000000#32] ∧
      serStep (ready.load [.word 0xC0000000#32]) = none := by decide

theorem witness_StepAfterWithFetchWordRunsTheWord : 0xFFFFFFFF < 2 ^ 32 := by decide

theorem witness_StepTakesTheEnabledAgent :
    ((queued 1#32).fault = none ∧ (∃ t, serStep (queued 1#32).passTurn = some t) ∧
      cpStep (queued 1#32) = none) ∧
    ((renderingAt 24).fault = none ∧ (∃ t, (renderingAt 24).passTurn.push = some t) ∧
      serStep (renderingAt 24) = none) :=
  ⟨⟨rfl, ⟨_, rfl⟩, rfl⟩,
    rfl, ⟨_, (State.push_eq_some _ _).2 ⟨rfl, queueDepth_pos, by decide, rfl⟩⟩, rfl⟩

theorem witness_StepFaultsExactlyOnTheThreeUndefinedCommands :
    (State.reset.load [.command .render]).fault = none := rfl

theorem witness_FaultIsSticky :
    step (ready.withFetchWord 32 0) = .fault .initTwice ∧
      ({ ready with fault := some .initTwice } : State).fault = some .initTwice := ⟨rfl, rfl⟩

theorem witness_ConfigurationIsConstantOnceInitialised :
    (∃ t, step (ready.withFetchWord 32 0x40000000) = .next t ∧
      (ready.withFetchWord 32 0x40000000).inited = true) ∧
    (∃ t, step (State.reset.withFetchWord 32 0) = .next t ∧
      (State.reset.withFetchWord 32 0).inited = false ∧ t.inited = true) :=
  ⟨⟨_, rfl, rfl⟩, ⟨_, rfl, rfl, rfl⟩⟩

theorem witness_BufferIsChangedOnlyByClearAndSetPixel :
    ((nextOf (step (ready.withFetchWord 32 0x80FF0080))).map fun t => decide (t.pb ≠ ready.pb)) =
      some true := by decide

theorem witness_step_of_the_serialiser :
    ∃ t, step (queued 1#32) = .next t ∧ 0 < ({ queued 1#32 with bcnt := 2 } : State).bcnt := by
  have ht := (turnStep_eq_some (queued 1#32) _).2 (.inr ⟨_, rfl, rfl, .inr rfl⟩)
  exact ⟨_, by unfold step; rw [ht]; rfl, by decide⟩

theorem witness_ShiftsOfAWordAreConsecutive :
    ∃ t, step { ready with bcnt := 2 } = .next t ∧ 0 < ({ ready with bcnt := 2 } : State).bcnt := by
  have ht := (turnStep_eq_some { ready with bcnt := 2 } _).2 (.inr ⟨_, rfl, rfl, .inr rfl⟩)
  exact ⟨_, by unfold step; rw [ht]; rfl, by decide⟩

theorem witness_QuiescentStateRests : ready.ended = true := by decide

theorem witness_WaitingRenderIsServedByTheSerialiser :
    waiting.Inv ∧ waiting.cpst = .rendering ∧ cpStep waiting = none :=
  ⟨witness_waiting_inv, rfl,
    (cpStep_eq_none _).2 (.inr ⟨rfl, (State.push_eq_none _ rfl (by decide)).2 (by simp [waiting])⟩)⟩

theorem witness_NoReachableStateIsStuck : waiting.Inv ∧ waiting.quiescent = false :=
  ⟨witness_waiting_inv, rfl⟩

/-- The invariant's step: the pull that frees a waiting RENDER. -/
theorem witness_StepKeepsTheInvariant : ∃ t, waiting.Inv ∧ step waiting = .next t := by
  have hs : serStep waiting.passTurn =
      some (waiting.passTurn.loadShifter 0#32 (List.replicate Config.queueDepthPred 0#32)) :=
    (serStep_eq_some _ _).2 ⟨rfl, .inr ⟨rfl, _, _, rfl, rfl⟩⟩
  have hc := witness_WaitingRenderIsServedByTheSerialiser.2.2
  have ht := (turnStep_eq_some waiting _).2 (.inr ⟨_, hs, rfl, .inr hc⟩)
  exact ⟨_, witness_waiting_inv, by unfold step; rw [ht]; rfl⟩

theorem witness_StepCommitsExactlyTheFramesOfAcceptedRenders :
    ∃ t, (ready.withFetchWord 32 0xC0000000).Inv ∧
      step (ready.withFetchWord 32 0xC0000000) = .next t ∧ t.cpst = .rendering :=
  ⟨_, { witness_ready_inv with
        before := by intro h; cases h
        configured := fun _ => ⟨rfl, rfl, rfl, rfl⟩
        rendering := by intro h; cases h }, rfl, rfl⟩

/-- A run of no command is quiescent without a fault, and so is one of CLEAR after one step. -/
theorem witness_WireAtQuiescenceIsThePicturesRendered :
    (after 1 (State.reset.load [.word 0x40000000#32])).fault = none ∧
      (after 1 (State.reset.load [.word 0x40000000#32])).quiescent = true := by
  have ht := (turnStep_eq_some (State.reset.load [.word 0x40000000#32]) _).2
    (.inl ⟨cpStep_idle _ _ _ rfl rfl, .inr rfl⟩)
  have h : after 1 (State.reset.load [.word 0x40000000#32]) =
      ((State.reset.load [.word 0x40000000#32]).passTurn.takeCommand []).clearSlots := by
    unfold after advance step
    rw [ht]
    rfl
  rw [h]
  exact ⟨rfl, rfl⟩

theorem witness_FinalWireDoesNotDependOnTheSchedule :
    ready.Inv ∧ (after 0 ready).fault = none ∧ (after 0 ready).quiescent = true :=
  ⟨witness_ready_inv, rfl, rfl⟩

theorem witness_StepDoesOneUnitOfWork :
    ∃ t, waiting.Inv ∧ waiting.quiescent = false ∧ step waiting = .next t :=
  let ⟨t, h1, h2⟩ := witness_StepKeepsTheInvariant
  ⟨t, h1, rfl, h2⟩

theorem witness_RunReachesQuiescence : waiting.Inv ∧ waiting.fault = none :=
  ⟨witness_waiting_inv, rfl⟩

theorem witness_RenderReturns : waiting.Inv ∧ waiting.fault = none ∧ waiting.cpst = .rendering :=
  ⟨witness_waiting_inv, rfl, rfl⟩

end Sys2Proof.Tests
end

section
/-! PROOFS. The waveform times: the order of the shares of the symbol period, and the pulse widths made
of them (R7, R152, D11). -/

namespace Sys2Proof.Machine

/-! ### Shares of the symbol period -/

theorem periodShares_pos : 0 < Config.periodShares := Nat.succ_pos _

theorem shares_strictMono : StrictMono Config.shares := by
  intro m n hmn
  have hparts : (0 : ℚ) < Config.periodShares := Nat.cast_pos.2 periodShares_pos
  have hperiod := tSym_pos
  unfold Config.shares
  gcongr

@[simp] theorem shares_zero : Config.shares 0 = 0 := by simp [Config.shares]

/-- All the shares together are the symbol period. -/
@[simp] theorem shares_periodShares : Config.shares Config.periodShares = Config.tSym := by
  rw [Config.shares, div_self (Nat.cast_ne_zero.2 periodShares_pos.ne'), one_mul]

/-! ### The two widths -/

theorem narrowWidth_nonneg : 0 ≤ Config.narrowWidth := by
  rw [← shares_zero]
  exact shares_strictMono.monotone (Nat.zero_le _)

theorem narrowWidth_lt_wideWidth : Config.narrowWidth < Config.wideWidth :=
  shares_strictMono (Nat.lt_add_of_pos_right (Nat.succ_pos _))

theorem wideWidth_lt_tSym : Config.wideWidth < Config.tSym := by
  rw [← shares_periodShares]
  exact shares_strictMono (Nat.lt_add_of_pos_right (Nat.succ_pos _))

/-- T0H and T1H are the two widths, in one order or the other: M5 does not say which (R88, N11). -/
theorem t0h_t1h_eq_widths :
    (Config.t0h = Config.narrowWidth ∧ Config.t1h = Config.wideWidth) ∨
      (Config.t0h = Config.wideWidth ∧ Config.t1h = Config.narrowWidth) := by
  unfold Config.t0h Config.t1h
  cases Config.oneIsWider
  · exact .inr ⟨rfl, rfl⟩
  · exact .inl ⟨rfl, rfl⟩

/-- Settles O27: the widths are shares of the period, in the order nothing ≤ narrow < wide < all. -/
theorem pulseWidthsDifferAndFitThePeriod : Obligations.PulseWidthsDifferAndFitThePeriod := by
  have hnarrow := narrowWidth_nonneg
  have hgap := narrowWidth_lt_wideWidth
  have hrest := wideWidth_lt_tSym
  have hwide := hnarrow.trans hgap.le
  have hfits := hgap.trans hrest
  unfold Obligations.PulseWidthsDifferAndFitThePeriod
  obtain ⟨h0, h1⟩ | ⟨h0, h1⟩ := t0h_t1h_eq_widths
  · rw [h0, h1]
    exact ⟨tSym_pos, hgap.ne, hnarrow, hwide, hfits, hrest⟩
  · rw [h0, h1]
    exact ⟨tSym_pos, hgap.ne', hwide, hnarrow, hrest, hfits⟩

end Sys2Proof.Machine
end

section
/-! PROOFS. The state invariant: it holds at reset, every operation the steps are made of keeps it,
and so does every step (R22, R25, R27, R28, R29, R145, R150, R152). -/

namespace Sys2Proof.Machine

/-! ### The inputs from outside -/

/-- The invariant reads neither the host's commands nor the schedule. -/
theorem State.Inv.withInputs {s : State} (h : s.Inv) (items : List HostItem) (sched : List Agent)
    (k : Nat) : State.Inv { s with hostq := items, sched := sched, ticks := k } :=
  { h with
    before := fun hi => { h.before hi with }
    configured := fun hi => { h.configured hi with } }

theorem State.Inv.passTurn {s : State} (h : s.Inv) : s.passTurn.Inv := h.withInputs _ _ _

theorem State.Inv.takeCommand {s : State} (h : s.Inv) (rest : List HostItem) :
    (s.takeCommand rest).Inv := h.withInputs _ _ _

/-! ### The commands -/

theorem State.Inv.initialised {s : State} (h : s.Inv) : s.initialised.Inv :=
  { h with
    before := nofun
    configured := fun _ => ⟨rfl, rfl, rfl, rfl⟩ }

theorem State.Inv.clearSlots {s : State} (h : s.Inv) : s.clearSlots.Inv :=
  { h with
    slots := fun i => by rw [State.slot_clearSlots]; rfl
    before := fun hi => { h.before hi with }
    configured := fun hi => { h.configured hi with } }

/-- A slot may take any word whose upper 8 bits are 0 (R22). -/
theorem State.Inv.writeSlot {s : State} (h : s.Inv) (i : Fin 25) {v : Word}
    (hv : v.extractLsb' 24 8 = 0#8) : (s.writeSlot i v).Inv :=
  { h with
    slots := fun j => by
      by_cases hj : j = i
      · rw [hj, State.slot_writeSlot_same, hv]
      · rw [State.slot_writeSlot_other s i j v hj, h.slots j]
    before := fun hi => { h.before hi with }
    configured := fun hi => { h.configured hi with } }

theorem State.Inv.beginRender {s : State} (h : s.Inv) (hi : s.inited = true) :
    s.beginRender.Inv :=
  { h with
    ridx := Nat.zero_le _
    rendering := fun _ => Nat.succ_pos _
    before := fun h0 => absurd (hi.symm.trans h0) nofun
    configured := fun hi => { h.configured hi with } }

theorem State.Inv.exec {i : Instr} {s t : State} (h : s.Inv) (he : exec i s = .next t) : t.Inv := by
  obtain ⟨-, -, rfl⟩ | ⟨-, rfl⟩ | ⟨x, y, r, g, b, -, -, ⟨cx, cy, -, rfl⟩ | ⟨-, rfl⟩⟩ | ⟨-, hi, rfl⟩ :=
    exec_cases he
  · exact h.initialised
  · exact h.clearSlots
  · exact h.writeSlot _ (pack_upper r g b)
  · exact h
  · exact h.beginRender hi

/-! ### The push step -/

/-- Only a configured block renders: before INIT the command processor is idle. -/
theorem State.Inv.inited_of_rendering {s : State} (h : s.Inv) (hc : s.cpst = .rendering) :
    s.inited = true := by
  cases hi : s.inited with
  | true => rfl
  | false => exact absurd ((h.before hi).idle.symm.trans hc) nofun

theorem State.Inv.push {s : State} (h : s.Inv) (hc : s.cpst = .rendering)
    (hroom : s.txq.length < Config.queueDepth) (hr : s.ridx < 25) :
    (s.enqueue (transmitWord (s.slot ⟨s.ridx, hr⟩))).endPush.Inv :=
  have hinit := h.inited_of_rendering hc
  { h with
    padding := fun w hw => by
      obtain hw | rfl := by simpa using hw
      · exact h.padding w hw
      · exact transmitWord_padding _
    capacity := by simpa using hroom
    ridx := hr
    rendering := fun ht => by
      have hlast : s.ridx ≠ 24 := fun h24 => by simp [h24] at ht
      simp only [State.endPush_ridx, State.enqueue_ridx]
      omega
    before := fun h0 => absurd (hinit.symm.trans h0) nofun
    configured := fun hi => { h.configured hi with } }

/-! ### The serialiser -/

theorem getLsbD_eq_false_of_padding {w : Word} (hw : w.extractLsb' 0 8 = 0#8) {k : Nat}
    (hk : k < 8) : w.getLsbD k = false := by
  have hbit := congrArg (·.getLsbD k) hw
  simpa [hk] using hbit

theorem State.Inv.loadShifter {s : State} (h : s.Inv) (hi : s.inited = true) {w : Word}
    {ws : List Word} (hq : s.txq = w :: ws) : (s.loadShifter w ws).Inv :=
  { h with
    padding := fun v hv => h.padding v (hq ▸ List.mem_cons_of_mem w hv)
    capacity := by
      have hcap := h.capacity
      rw [hq, List.length_cons] at hcap
      exact Nat.le_of_succ_le hcap
    bcnt := le_rfl
    osr := fun _ k hk =>
      getLsbD_eq_false_of_padding (h.padding w (hq ▸ List.mem_cons_self)) hk
    before := fun h0 => absurd (hi.symm.trans h0) nofun
    configured := fun hi => { h.configured hi with } }

theorem State.Inv.shift {s : State} (h : s.Inv) (hi : s.inited = true) : s.shift.Inv :=
  have hcfg := h.configured hi
  { h with
    bcnt := (Nat.sub_le _ _).trans h.bcnt
    osr := fun hb k hk => by
      simp only [State.shift, State.shiftOsr_bcnt, State.emit_bcnt] at hb hk
      have hle := h.bcnt
      have hzero : s.osr.getLsbD (k - 1) = false := h.osr (by omega) (k - 1) (by omega)
      simp [State.shift, hzero]
    before := fun h0 => absurd (hi.symm.trans h0) nofun
    configured := fun _ => { hcfg with line := congrArg (Line.driven ∘ restLevel) hcfg.invert }
    pulses := by
      simp [State.shift, h.pulses, hcfg.pin, hcfg.rate, hcfg.invert] }

/-! ### The statements -/

/-- Settles O48: each kind of step is made of operations that keep the invariant. -/
theorem stepKeepsTheInvariant : Obligations.StepKeepsTheInvariant := by
  intro s t h hstep
  obtain ⟨-, ⟨rfl, -, -⟩ | ⟨-, c, rest, -, he⟩ | ⟨hc, hroom, hr, rfl⟩ | ⟨hi, -, rfl⟩ |
    ⟨hi, -, w, ws, hq, rfl⟩⟩ := step_cases hstep
  · exact h
  · exact (h.passTurn.takeCommand rest).exec he
  · exact h.passTurn.push hc hroom hr
  · exact h.passTurn.shift hi
  · exact h.passTurn.loadShifter hi hq

theorem reset_slot (i : Fin 25) : State.reset.slot i = 0#32 := State.slot_clearSlots State.reset i

theorem reset_inv : State.reset.Inv where
  slots i := by rw [reset_slot]; rfl
  padding := nofun
  capacity := Nat.zero_le _
  ridx := Nat.zero_le _
  rendering := nofun
  bcnt := Nat.zero_le _
  osr := nofun
  before _ := ⟨rfl, rfl, rfl, rfl, rfl⟩
  configured := nofun
  pulses := rfl

/-- Settles O47: the invariant reads no input from outside. -/
theorem resetSatisfiesTheInvariant : Obligations.ResetSatisfiesTheInvariant :=
  ⟨reset_inv, reset_inv.withInputs⟩

/-- Settles O45: the reset event leaves what reset does, but for the inputs and the counters. -/
theorem resetTable : Obligations.ResetTable := by
  intro s t ht
  obtain rfl | rfl : t = State.reset ∨ t = s.assertReset := by simpa using ht
  · exact ⟨reset_slot, rfl, rfl, rfl, rfl, rfl, rfl, rfl, rfl⟩
  · exact ⟨reset_slot, rfl, rfl, rfl, rfl, rfl, rfl, rfl, rfl⟩

end Sys2Proof.Machine
end

section
/-! PROOFS. What a step may change: the frames of the agents (R23 to R29), their enabling conditions
(R33), and FAULT along a run (R31). -/

namespace Sys2Proof.Machine

/-! ### The agents -/

/-- Settles O29: the state each step leaves differs from the one before in these fields only. -/
theorem agentsChangeOnlyTheirOwnState : Obligations.AgentsChangeOnlyTheirOwnState := by
  constructor
  · intro s t h
    obtain ⟨-, -, -, rfl⟩ := (State.push_eq_some s t).1 h
    rfl
  · intro s t h
    obtain ⟨-, ⟨-, rfl⟩ | ⟨-, w, ws, -, rfl⟩⟩ := (serStep_eq_some s t).1 h
    · rfl
    · rfl

theorem State.acceptEnabled_iff (s : State) :
    s.acceptEnabled = true ↔ s.cpst = .idle ∧ ∃ c rest, s.hostq = c :: rest := by
  simp [State.acceptEnabled, State.cmdValid, ← List.ne_nil_iff_exists_cons]

theorem State.pushEnabled_iff (s : State) :
    s.pushEnabled = true ↔
      s.cpst = .rendering ∧ s.ridx < 25 ∧ s.txq.length < Config.queueDepth := by
  simp [State.pushEnabled, State.txqHasRoom_iff, and_assoc]

theorem State.shiftEnabled_iff (s : State) :
    s.shiftEnabled = true ↔ s.inited = true ∧ 0 < s.bcnt := by
  simp [State.shiftEnabled]

theorem State.pullEnabled_iff (s : State) :
    s.pullEnabled = true ↔ s.inited = true ∧ s.bcnt = 0 ∧ ∃ w ws, s.txq = w :: ws := by
  simp [State.pullEnabled, ← List.ne_nil_iff_exists_cons, and_assoc]

theorem isSome_cpStep (s : State) : (cpStep s).isSome = s.cpEnabled := by
  rw [Bool.eq_iff_iff, Option.isSome_iff_exists, State.cpEnabled, Bool.or_eq_true,
    State.acceptEnabled_iff, State.pushEnabled_iff]
  constructor
  · rintro ⟨o, ho⟩
    obtain ⟨hc, c, rest, hq, -⟩ | ⟨-, t, ht, -⟩ := (cpStep_eq_some s o).1 ho
    · exact .inl ⟨hc, c, rest, hq⟩
    · obtain ⟨hc, hroom, hr, -⟩ := (State.push_eq_some s t).1 ht
      exact .inr ⟨hc, hr, hroom⟩
  · rintro (⟨hc, c, rest, hq⟩ | ⟨hc, hr, hroom⟩)
    · exact ⟨_, cpStep_idle s c rest hc hq⟩
    · have hpush := (State.push_eq_some s _).2 ⟨hc, hroom, hr, rfl⟩
      exact ⟨_, (cpStep_eq_some s _).2 (.inr ⟨hc, _, hpush, rfl⟩)⟩

theorem isSome_serStep (s : State) : (serStep s).isSome = s.serEnabled := by
  rw [Bool.eq_iff_iff, Option.isSome_iff_exists, State.serEnabled, Bool.or_eq_true,
    State.shiftEnabled_iff, State.pullEnabled_iff]
  constructor
  · rintro ⟨t, ht⟩
    obtain ⟨hi, ⟨hb, -⟩ | ⟨hb, w, ws, hq, -⟩⟩ := (serStep_eq_some s t).1 ht
    · exact .inl ⟨hi, hb⟩
    · exact .inr ⟨hi, hb, w, ws, hq⟩
  · rintro (⟨hi, hb⟩ | ⟨hi, hb, w, ws, hq⟩)
    · exact ⟨_, (serStep_eq_some s _).2 ⟨hi, .inl ⟨hb, rfl⟩⟩⟩
    · exact ⟨_, (serStep_eq_some s _).2 ⟨hi, .inr ⟨hb, w, ws, hq, rfl⟩⟩⟩

/-- Settles O33: the enabling conditions are those under which an agent's step is defined. -/
theorem enablingConditionsOfTheAgents : Obligations.EnablingConditionsOfTheAgents :=
  fun s => ⟨isSome_cpStep s, isSome_serStep s⟩

/-! ### The commands -/

/-- Only CLEAR and SET_PIXEL write the buffer (R23). -/
theorem exec_pb {i : Instr} {s t : State} (h : exec i s = .next t) :
    t.pb = s.pb ∨ i = .clear ∨ ∃ x y r g b, i = .setPixel x y r g b := by
  obtain ⟨-, -, rfl⟩ | ⟨hi, -⟩ | ⟨x, y, r, g, b, hi, -⟩ | ⟨-, -, rfl⟩ := exec_cases h
  · exact .inl rfl
  · exact .inr (.inl hi)
  · exact .inr (.inr ⟨x, y, r, g, b, hi⟩)
  · exact .inl rfl

/-- INITED and the configuration registers are the same in both states (R24, R25, R26). -/
structure State.SameConfiguration (s t : State) : Prop where
  inited : t.inited = s.inited
  pin : t.cfgPin = s.cfgPin
  rate : t.cfgRate = s.cfgRate
  invert : t.cfgInvert = s.cfgInvert
  offset : t.progOffset = s.progOffset

/-- Only INIT, on a block that is not initialised, writes INITED and the configuration. -/
theorem exec_sameConfiguration {i : Instr} {s t : State} (h : exec i s = .next t) :
    s.SameConfiguration t ∨ (i = .init ∧ s.inited = false) := by
  obtain ⟨hi, h0, -⟩ | ⟨-, rfl⟩ | ⟨x, y, r, g, b, -, -, ⟨cx, cy, -, rfl⟩ | ⟨-, rfl⟩⟩ | ⟨-, -, rfl⟩ :=
    exec_cases h
  · exact .inr ⟨hi, h0⟩
  all_goals exact .inl ⟨rfl, rfl, rfl, rfl, rfl⟩

/-! ### The step -/

/-- The host's commands, the buffer and the configuration change only when CP, idle, accepts a
command; in every other step they stay. -/
theorem step_accepts_or_keeps {s t : State} (h : step s = .next t) :
    (s.cpst = .idle ∧ ∃ c, s.hostq = c :: t.hostq ∧
      exec c.instr (s.passTurn.takeCommand t.hostq) = .next t) ∨
    (t.hostq = s.hostq ∧ t.pb = s.pb ∧ s.SameConfiguration t) := by
  obtain ⟨-, ⟨rfl, -, -⟩ | ⟨hc, c, rest, hq, he⟩ | ⟨-, -, hr, rfl⟩ | ⟨-, -, rfl⟩ |
    ⟨-, -, w, ws, -, rfl⟩⟩ := step_cases h
  case inr.inl =>
    obtain ⟨-, -, -, -, -, -, hrest, -, -⟩ := exec_frame he
    rw [State.takeCommand_hostq] at hrest
    subst hrest
    exact .inl ⟨hc, c, hq, he⟩
  all_goals exact .inr ⟨rfl, rfl, rfl, rfl, rfl, rfl, rfl⟩

/-- Settles O20: a rendering CP accepts nothing. -/
theorem nothingIsAcceptedWhileRendering : Obligations.NothingIsAcceptedWhileRendering := by
  intro s t hc h
  obtain ⟨hidle, -⟩ | ⟨hq, hpb, -⟩ := step_accepts_or_keeps h
  · exact absurd (hc.symm.trans hidle) nofun
  · exact ⟨hq, hpb⟩

/-- A step that does not keep the configuration accepts an INIT, with INITED = 0. -/
theorem step_sameConfiguration_or_init {s t : State} (h : step s = .next t) :
    s.SameConfiguration t ∨
      (s.inited = false ∧ s.cpst = .idle ∧ ∃ c, s.hostq = c :: t.hostq ∧ c.instr = .init) := by
  obtain ⟨hc, c, hq, he⟩ | ⟨-, -, hsame⟩ := step_accepts_or_keeps h
  · obtain ⟨hi, hp, hr, hv, ho⟩ | ⟨hinit, h0⟩ := exec_sameConfiguration he
    · exact .inl ⟨hi, hp, hr, hv, ho⟩
    · exact .inr ⟨h0, hc, c, hq, hinit⟩
  · exact .inl hsame

/-- Settles O37: only an INIT, with INITED = 0, changes the configuration. -/
theorem configurationIsConstantOnceInitialised :
    Obligations.ConfigurationIsConstantOnceInitialised := by
  constructor
  · intro s t h h1
    obtain ⟨hi, hp, hr, hv, ho⟩ | ⟨h0, -⟩ := step_sameConfiguration_or_init h
    · exact ⟨hi.trans h1, hp, hr, hv, ho⟩
    · exact absurd (h1.symm.trans h0) nofun
  · intro s t h h0 h1
    obtain hsame | ⟨-, hc, hinit⟩ := step_sameConfiguration_or_init h
    · exact absurd (h1.symm.trans (hsame.inited.trans h0)) nofun
    · exact ⟨hc, hinit⟩

/-- Settles O38: a step that does not keep the buffer accepts a command that writes it. -/
theorem bufferIsChangedOnlyByClearAndSetPixel :
    Obligations.BufferIsChangedOnlyByClearAndSetPixel := by
  intro s t h hpb
  obtain ⟨hc, c, hq, he⟩ | ⟨-, hsame, -⟩ := step_accepts_or_keeps h
  · exact ⟨hc, c, hq, (exec_pb he).resolve_left hpb⟩
  · exact absurd hsame hpb

/-- Settles O39: a shift emits its symbol, every other step none. -/
theorem wireOnlyGrowsBySingleSymbols : Obligations.WireOnlyGrowsBySingleSymbols := by
  intro s t h
  obtain ⟨-, ⟨rfl, -, -⟩ | ⟨-, c, rest, -, he⟩ | ⟨-, -, hr, rfl⟩ | ⟨-, -, rfl⟩ |
    ⟨-, -, w, ws, -, rfl⟩⟩ := step_cases h
  · exact .inl rfl
  · obtain ⟨-, -, -, hwire, -⟩ := exec_frame he
    exact .inl hwire
  · exact .inl rfl
  · exact .inr ⟨_, rfl⟩
  · exact .inl rfl

/-- Settles O40: a push appends its word, a pull takes the head, every other step leaves TXQ. -/
theorem queueIsFirstInFirstOut : Obligations.QueueIsFirstInFirstOut := by
  intro s t h
  obtain ⟨-, ⟨rfl, -, -⟩ | ⟨-, c, rest, -, he⟩ | ⟨-, hroom, hr, rfl⟩ | ⟨-, -, rfl⟩ |
    ⟨-, hb, w, ws, hq, rfl⟩⟩ := step_cases h
  · exact .inl rfl
  · obtain ⟨htxq, -⟩ := exec_frame he
    exact .inl htxq
  · exact .inr (.inl ⟨_, rfl, hroom⟩)
  · exact .inl rfl
  · exact .inr (.inr ⟨w, hq, rfl, hb, rfl⟩)

theorem step_of_turnStep {s : State} {o : Answer} (hf : s.fault = none)
    (ho : turnStep s = some o) : step s = o := by
  rw [step, hf, ho]

/-- Settles O30: the turn is CP's step, which accepts the command. -/
theorem stepRunsTheCommandPresented : Obligations.StepRunsTheCommandPresented := by
  intro s c rest hf hc hq hturn
  have hcp : cpStep s.passTurn = some (exec c.instr (s.passTurn.takeCommand rest)) :=
    cpStep_idle s.passTurn c rest hc hq
  refine ⟨step_of_turnStep hf ((turnStep_eq_some s _).2 (.inl ⟨hcp, hturn⟩)), ?_, ?_⟩
  · rintro w rfl
    rfl
  · rintro i rfl
    rfl

/-! ### FAULT -/

theorem step_of_fault {s : State} {f : Fault} (hf : s.fault = some f) : step s = .fault f :=
  (step_eq_fault s f).2 (.inl hf)

/-- A step that faults puts its reason in FAULT. -/
theorem advance_of_step_fault {s : State} {f : Fault} (h : step s = .fault f) :
    advance s = s.setFault f := by
  rw [advance, h]

theorem after_fault {s : State} {f : Fault} (hf : s.fault = some f) (n : Nat) :
    (after n s).fault = some f := by
  induction n generalizing s with
  | zero => exact hf
  | succ n ih =>
    have hadv := advance_of_step_fault (step_of_fault hf)
    rw [after, hadv]
    exact ih rfl

/-- Settles O36: the reason a faulting step sets stays through any run. -/
theorem faultIsSticky : Obligations.FaultIsSticky := by
  refine ⟨fun s f n h => ?_, fun s f => step_of_fault⟩
  rw [after, advance_of_step_fault h]
  exact after_fault rfl n

end Sys2Proof.Machine
end

section
/-! PROOFS. Noninterference: what a step does to WIRE, the buffer, the queue, CPST and FAULT reads
neither the configuration nor the line (R25, R26, R30, R152, R155). `State.stripLine` forgets these;
every operation gives the same result, up to what is forgotten, with and without them. -/

namespace Sys2Proof.Machine

/-- The state with the configuration, the line, the pulse record and the draw counter at fixed
values: what is left is all that can determine WIRE. -/
def State.stripLine (s : State) : State :=
  { s with
    cfgPin := 0
    cfgRate := 0
    cfgInvert := false
    progOffset := 0
    dout := .undriven
    pulses := []
    draws := 0 }

/-- An answer with its next state stripped. -/
def stripAnswer : Answer → Answer
  | .next s => .next s.stripLine
  | .fault f => .fault f
  | .refused r => .refused r

/-! ### The commands -/

theorem stripAnswer_whenReady (s : State) (m : State → Answer)
    (h : stripAnswer (m s.stripLine) = stripAnswer (m s)) :
    stripAnswer (whenReady s.stripLine m) = stripAnswer (whenReady s m) := by
  cases hc : s.cpst with
  | idle => rwa [whenReady_idle s m hc, whenReady_idle s.stripLine m hc]
  | rendering => rw [whenReady_rendering s m hc, whenReady_rendering s.stripLine m hc]

theorem stripAnswer_exec (i : Instr) (s : State) :
    stripAnswer (exec i s.stripLine) = stripAnswer (exec i s) := by
  have hi : s.stripLine.inited = s.inited := rfl
  cases i with
  | init =>
    simp only [exec, execInit]
    apply stripAnswer_whenReady
    rw [hi]
    cases s.inited <;> rfl
  | clear => exact stripAnswer_whenReady s (fun s => .next s.clearSlots) rfl
  | setPixel x y r g b =>
    simp only [exec, execSetPixel]
    apply stripAnswer_whenReady
    rw [hi]
    cases s.inited
    · rfl
    · obtain _ | ⟨cx, cy⟩ := coords? x y <;> rfl
  | render =>
    simp only [exec, execRender]
    apply stripAnswer_whenReady
    rw [hi]
    cases s.inited <;> rfl

/-! ### The agents -/

theorem push_stripLine (s : State) : s.stripLine.push = s.push.map State.stripLine := by
  have hc : s.stripLine.cpst = s.cpst := rfl
  have hr : s.stripLine.ridx = s.ridx := rfl
  unfold State.push
  rw [hc]
  cases s.cpst with
  | idle => rfl
  | rendering =>
    by_cases hlt : s.ridx < 25
    · have hroom : s.stripLine.txqHasRoom = s.txqHasRoom := rfl
      simp only [hr, hlt, dite_true, State.transmitBlocking, hroom]
      cases s.txqHasRoom <;> rfl
    · simp [hr, hlt]

theorem stripAnswer_cpStep (s : State) :
    (cpStep s.stripLine).map stripAnswer = (cpStep s).map stripAnswer := by
  have hc : s.stripLine.cpst = s.cpst := rfl
  have hq : s.stripLine.hostq = s.hostq := rfl
  rw [cpStep, cpStep, hc]
  cases s.cpst with
  | idle =>
    rw [acceptStep, acceptStep, hq]
    cases s.hostq with
    | nil => rfl
    | cons c rest => exact congrArg some (stripAnswer_exec c.instr (s.takeCommand rest))
  | rendering =>
    rw [push_stripLine]
    cases s.push <;> rfl

theorem stripLine_serStep (s : State) :
    (serStep s.stripLine).map State.stripLine = (serStep s).map State.stripLine := by
  have hi : s.stripLine.inited = s.inited := rfl
  have hb : s.stripLine.bcnt = s.bcnt := rfl
  have hq : s.stripLine.txq = s.txq := rfl
  rw [serStep, serStep, hi, hb, State.pull, State.pull, hq]
  cases s.inited
  · rfl
  · by_cases hpos : 0 < s.bcnt
    · simp only [hpos, if_true]
      rfl
    · simp only [hpos, if_false]
      cases s.txq <;> rfl

theorem stripAnswer_agentStep (a : Agent) (s : State) :
    (agentStep a s.stripLine).map stripAnswer = (agentStep a s).map stripAnswer := by
  cases a with
  | cp => exact stripAnswer_cpStep s
  | ser =>
    have h := congrArg (Option.map (Host.Outcome.next (φ := Fault) (ρ := Refusal)))
      (stripLine_serStep s)
    rw [agentStep, agentStep, Option.map_map, Option.map_map]
    rwa [Option.map_map, Option.map_map] at h

/-! ### The step -/

theorem turnStep_eq_or (s : State) :
    turnStep s =
      (agentStep s.turn s.passTurn).or (agentStep (otherAgent s.turn) s.passTurn) := by
  rw [turnStep]
  cases agentStep s.turn s.passTurn <;> rfl

theorem stripAnswer_turnStep (s : State) :
    (turnStep s.stripLine).map stripAnswer = (turnStep s).map stripAnswer := by
  have ht : s.stripLine.turn = s.turn := rfl
  have hp : s.stripLine.passTurn = s.passTurn.stripLine := rfl
  rw [turnStep_eq_or, turnStep_eq_or, Option.map_or, Option.map_or, ht, hp,
    stripAnswer_agentStep, stripAnswer_agentStep]

theorem step_eq_getD {s : State} (hf : s.fault = none) :
    step s = (turnStep s).getD (.next s) := by
  rw [step, hf]
  cases turnStep s <;> rfl

theorem stripAnswer_step (s : State) : stripAnswer (step s.stripLine) = stripAnswer (step s) := by
  cases hf : s.fault with
  | some f => rw [step_of_fault hf, step_of_fault (s := s.stripLine) hf]
  | none =>
    rw [step_eq_getD hf, step_eq_getD (s := s.stripLine) hf,
      ← Option.getD_map stripAnswer, ← Option.getD_map stripAnswer, stripAnswer_turnStep]
    rfl

/-! ### Runs -/

/-- What a run makes of a step's answer. -/
def takeAnswer (s : State) : Answer → State
  | .next t => t
  | .fault f => s.setFault f
  | .refused _ => s

theorem advance_eq_takeAnswer (s : State) : advance s = takeAnswer s (step s) := by
  rw [advance]
  cases step s <;> rfl

theorem stripLine_takeAnswer (s : State) (o : Answer) :
    (takeAnswer s o).stripLine = takeAnswer s.stripLine (stripAnswer o) := by
  cases o <;> rfl

theorem stripLine_advance (s : State) :
    (advance s.stripLine).stripLine = (advance s).stripLine := by
  rw [advance_eq_takeAnswer, advance_eq_takeAnswer, stripLine_takeAnswer, stripLine_takeAnswer,
    stripAnswer_step]
  rfl

/-- Two runs that begin alike but for what is stripped stay so. -/
theorem stripLine_after {s t : State} (h : s.stripLine = t.stripLine) (n : Nat) :
    (after n s).stripLine = (after n t).stripLine := by
  induction n generalizing s t with
  | zero => exact h
  | succ n ih =>
    refine ih ?_
    calc (advance s).stripLine = (advance s.stripLine).stripLine := (stripLine_advance s).symm
      _ = (advance t.stripLine).stripLine := by rw [h]
      _ = (advance t).stripLine := stripLine_advance t

/-- Settles O54: the first states agree when stripped, so the last ones do. -/
theorem wireDoesNotDependOnTheConfiguration : Obligations.WireDoesNotDependOnTheConfiguration := by
  intro s pin rate offset draws invert line ps n t t'
  have h : t'.stripLine = t.stripLine := by
    apply stripLine_after
    rfl
  exact ⟨show t'.stripLine.wire = t.stripLine.wire by rw [h],
    show t'.stripLine.pb = t.stripLine.pb by rw [h],
    show t'.stripLine.txq = t.stripLine.txq by rw [h],
    show t'.stripLine.cpst = t.stripLine.cpst by rw [h],
    show t'.stripLine.fault = t.stripLine.fault by rw [h]⟩

end Sys2Proof.Machine
end

section
/-! PROOFS. The decoder and the encoder: what a word of each opcode decodes to, that decoding undoes
encoding, and which words encoding gives back (R81 to R86). -/

namespace Sys2Proof

/-! ### The opcode -/

theorem getLsbD_of_op {w : Word} {op : BitVec 2} (h : w.extractLsb' 30 2 = op) :
    w.getLsbD 31 = op.getLsbD 1 ∧ w.getLsbD 30 = op.getLsbD 0 := by
  subst h
  simp

theorem decode_eq_init {w : Word} (h : w.extractLsb' 30 2 = 0b00#2) : decode w = .init := by
  obtain ⟨h31, h30⟩ := getLsbD_of_op h
  rw [decode, h31, h30]
  rfl

theorem decode_eq_clear {w : Word} (h : w.extractLsb' 30 2 = 0b01#2) : decode w = .clear := by
  obtain ⟨h31, h30⟩ := getLsbD_of_op h
  rw [decode, h31, h30]
  rfl

theorem decode_eq_setPixel {w : Word} (h : w.extractLsb' 30 2 = 0b10#2) :
    decode w = .setPixel (coordField w 27) (coordField w 24)
      (chanField w 16) (chanField w 8) (chanField w 0) := by
  obtain ⟨h31, h30⟩ := getLsbD_of_op h
  rw [decode, h31, h30]
  rfl

theorem decode_eq_render {w : Word} (h : w.extractLsb' 30 2 = 0b11#2) : decode w = .render := by
  obtain ⟨h31, h30⟩ := getLsbD_of_op h
  rw [decode, h31, h30]
  rfl

theorem op_cases (op : BitVec 2) : op = 0b00#2 ∨ op = 0b01#2 ∨ op = 0b10#2 ∨ op = 0b11#2 := by
  revert op
  decide

/-- A word is a SET_PIXEL by its OP field. -/
theorem exists_decode_eq_setPixel_iff (w : Word) :
    (∃ x y r g b, decode w = .setPixel x y r g b) ↔ w.extractLsb' 30 2 = 0b10#2 := by
  obtain h | h | h | h := op_cases (w.extractLsb' 30 2)
  · simp [decode_eq_init h, h]
  · simp [decode_eq_clear h, h]
  · simp [decode_eq_setPixel h, h]
  · simp [decode_eq_render h, h]

/-- Settles O2: one lemma for each opcode. -/
theorem decoderReadsEveryWordByItsFields : Obligations.DecoderReadsEveryWordByItsFields :=
  fun _ => ⟨decode_eq_init, decode_eq_clear, decode_eq_setPixel, decode_eq_render⟩

/-- Settles O1: the fixed words, evaluated. -/
theorem decoderReadsTheWordsOfTheSpec : Obligations.DecoderReadsTheWordsOfTheSpec := by
  unfold Obligations.DecoderReadsTheWordsOfTheSpec
  decide

/-! ### Coordinates in their 3-bit fields -/

theorem coordFits_iff (v : Int) : coordFits v = true ↔ 0 ≤ v ∧ v ≤ 7 := by
  simp [coordFits]

/-- A coordinate from 0 to 7 is not reduced by its field (R84). -/
theorem toNat_ofInt_of_coordFits {v : Int} (h : coordFits v = true) :
    ((BitVec.ofInt 3 v).toNat : Int) = v := by
  obtain ⟨h0, h7⟩ := (coordFits_iff v).1 h
  rw [BitVec.toNat_ofInt]
  omega

theorem ofInt_coordField (w : Word) (lo : Nat) :
    BitVec.ofInt 3 (coordField w lo) = w.extractLsb' lo 3 := by
  rw [coordField, BitVec.ofInt_natCast, BitVec.ofNat_toNat, BitVec.setWidth_eq]

/-! ### Decoding an encoded command -/

section Fields

variable (x y : Int) (r g b : Chan)

theorem coordField_x_encode :
    coordField (encode (.setPixel x y r g b)) 27 = ((BitVec.ofInt 3 x).toNat : Int) := by
  rw [coordField, encode,
    BitVec.extractLsb'_append_eq_of_le (xlo := b) (by decide),
    BitVec.extractLsb'_append_eq_of_le (xlo := g) (by decide),
    BitVec.extractLsb'_append_eq_of_le (xlo := r) (by decide),
    BitVec.extractLsb'_append_eq_of_le (xlo := BitVec.ofInt 3 y) (by decide),
    BitVec.extractLsb'_append_eq_right]

theorem coordField_y_encode :
    coordField (encode (.setPixel x y r g b)) 24 = ((BitVec.ofInt 3 y).toNat : Int) := by
  rw [coordField, encode,
    BitVec.extractLsb'_append_eq_of_le (xlo := b) (by decide),
    BitVec.extractLsb'_append_eq_of_le (xlo := g) (by decide),
    BitVec.extractLsb'_append_eq_of_le (xlo := r) (by decide),
    BitVec.extractLsb'_append_eq_right]

theorem chanField_red_encode : chanField (encode (.setPixel x y r g b)) 16 = r := by
  rw [chanField, encode,
    BitVec.extractLsb'_append_eq_of_le (xlo := b) (by decide),
    BitVec.extractLsb'_append_eq_of_le (xlo := g) (by decide),
    BitVec.extractLsb'_append_eq_right]

theorem chanField_green_encode : chanField (encode (.setPixel x y r g b)) 8 = g := by
  rw [chanField, encode,
    BitVec.extractLsb'_append_eq_of_le (xlo := b) (by decide),
    BitVec.extractLsb'_append_eq_right]

theorem chanField_blue_encode : chanField (encode (.setPixel x y r g b)) 0 = b := by
  rw [chanField, encode,
    BitVec.extractLsb'_append_eq_right]

end Fields

/-- Settles O3: the OP field of the word is the command's opcode, and each operand field holds its
operand, a well-formed coordinate unreduced. -/
theorem decodeOfEncodeIsTheCommand : Obligations.DecodeOfEncodeIsTheCommand := by
  intro i hwf
  cases i with
  | init => exact decode_eq_init Laws.OpcodeField.init
  | clear => exact decode_eq_clear Laws.OpcodeField.clear
  | setPixel x y r g b =>
    obtain ⟨hx, hy⟩ : coordFits x = true ∧ coordFits y = true := by
      simpa [Instr.wellFormed] using hwf
    rw [decode_eq_setPixel (Laws.OpcodeField.setPixel x y r g b), coordField_x_encode,
      coordField_y_encode, chanField_red_encode, chanField_green_encode, chanField_blue_encode,
      toNat_ofInt_of_coordFits hx, toNat_ofInt_of_coordFits hy]
  | render => exact decode_eq_render Laws.OpcodeField.render

/-! ### Encoding a decoded word -/

/-- The fields of format P are the whole word (R83). -/
theorem encode_decode_of_setPixel {w : Word} (h : w.extractLsb' 30 2 = 0b10#2) :
    encode (decode w) = w := by
  rw [decode_eq_setPixel h, encode, ofInt_coordField, ofInt_coordField, ← h]
  unfold chanField
  iterate 5 rw [BitVec.extractLsb'_append_extractLsb'_eq_extractLsb' (by rfl)]
  exact BitVec.extractLsb'_eq_self

/-- A format-N word gives back its OP field with the reserved bits zero (R82). -/
theorem encode_decode_of_ne_setPixel {w : Word} (h : w.extractLsb' 30 2 ≠ 0b10#2) :
    encode (decode w) = w.extractLsb' 30 2 ++ 0#30 := by
  obtain h0 | h0 | h0 | h0 := op_cases (w.extractLsb' 30 2)
  · rw [decode_eq_init h0, h0]; rfl
  · rw [decode_eq_clear h0, h0]; rfl
  · exact absurd h0 h
  · rw [decode_eq_render h0, h0]; rfl

/-- A word is its OP field over zeros exactly when its bits [29:0] are zero. -/
theorem op_append_zero_eq_iff (w : Word) :
    w.extractLsb' 30 2 ++ 0#30 = w ↔ w.extractLsb' 0 30 = 0#30 := by
  constructor
  · intro h
    rw [← h, BitVec.extractLsb'_append_eq_right]
  · intro h
    rw [← h]
    exact BitVec.extractLsb'_append_extractLsb'

/-- Settles O4: format P gives back every word, format N the words with bits [29:0] zero. -/
theorem encodeOfDecodeIsTheWordExactlyWhenCanonical :
    Obligations.EncodeOfDecodeIsTheWordExactlyWhenCanonical := by
  intro w
  rw [exists_decode_eq_setPixel_iff]
  by_cases h : w.extractLsb' 30 2 = 0b10#2
  · simp [encode_decode_of_setPixel h, h]
  · rw [encode_decode_of_ne_setPixel h, op_append_zero_eq_iff]
    simp [h]

end Sys2Proof
end

section
/-! PROOFS. The step and command words: no step is refused, and a word placed by withFetchWord is
run by the next step (R85, R86, R200). -/

namespace Sys2Proof.Machine

/-- No agent's step is refused: CP executes a command only at rest. -/
theorem cpStep_ne_refused (s : State) (r : Refusal) : cpStep s ≠ some (.refused r) := by
  intro h
  obtain ⟨hc, c, rest, -, he⟩ | ⟨-, t, -, he⟩ := (cpStep_eq_some _ _).1 h
  · exact exec_ne_refused c.instr (s.takeCommand rest) r hc he.symm
  · cases he

theorem turnStep_ne_refused (s : State) (r : Refusal) : turnStep s ≠ some (.refused r) := by
  intro h
  obtain ⟨hcp, -⟩ | ⟨t, -, he, -⟩ := (turnStep_eq_some _ _).1 h
  · exact cpStep_ne_refused _ r hcp
  · cases he

/-- Settles O34: a step is the sticky fault, a turn, or rest. -/
theorem stepIsNeverRefused : Obligations.StepIsNeverRefused := by
  intro s r h
  cases hf : s.fault with
  | some f =>
    rw [step_of_fault hf] at h
    cases h
  | none =>
    cases ho : turnStep s with
    | some o =>
      rw [step_of_turnStep hf ho] at h
      exact turnStep_ne_refused s r (h ▸ ho)
    | none =>
      rw [step_eq_getD hf, ho] at h
      cases h

/-- Settles O31: withFetchWord leaves an idle CP whose turn it is, with the word presented. -/
theorem stepAfterWithFetchWordRunsTheWord : Obligations.StepAfterWithFetchWordRunsTheWord := by
  intro s w hw
  have hword : BitVec.ofNat 32 (w % 2 ^ 32) = BitVec.ofNat 32 w := by
    rw [Nat.mod_eq_of_lt hw]
  obtain ⟨hstep, hinstr, -⟩ := stepRunsTheCommandPresented (s.withFetchWord 32 w)
    (.word (BitVec.ofNat 32 (w % 2 ^ 32))) s.hostq rfl rfl rfl (.inl rfl)
  rw [hstep, hinstr _ rfl, hword]
  rfl

end Sys2Proof.Machine
end

section
/-! PROOFS. The symbols of a frame by slot and bit (R50, R54, R90). -/

namespace Sys2Proof.Machine

/-- In a list of blocks of `n`, place `n * i + k` is place `k` of block `i`. -/
theorem getElem?_flatMap_of_length_eq {α β : Type} {f : α → List β} {n : Nat}
    (hf : ∀ a, (f a).length = n) (l : List α) (i : Nat) {k : Nat} (hk : k < n) :
    (l.flatMap f)[n * i + k]? = l[i]?.bind fun a => (f a)[k]? := by
  induction l generalizing i with
  | nil => simp
  | cons a l ih =>
    rw [List.flatMap_cons]
    cases i with
    | zero => simp [List.getElem?_append_left, hf, hk]
    | succ i =>
      have hplace : n * (i + 1) + k = (f a).length + (n * i + k) := by
        rw [hf, Nat.mul_succ]; omega
      rw [hplace, List.getElem?_append_right (Nat.le_add_right _ _), Nat.add_sub_cancel_left, ih]
      rfl

theorem frame_length (pb : Vector Word 25) : (frame pb).length = 600 := by
  simp [frame, List.length_flatMap]

theorem getElem?_bits24 (v : Word) {k : Nat} (hk : k < 24) :
    (bits24 v)[k]? = some (sym (v.getLsbD (23 - k))) := by
  simp [bits24, hk]

/-- Settles O49: a frame is 25 blocks of 24 symbols, one for each slot. -/
theorem frameSymbolIsTheBitOfItsSlot : Obligations.FrameSymbolIsTheBitOfItsSlot := by
  intro pb
  refine ⟨frame_length pb, fun i k hk => ?_⟩
  have hslot : pb.toList[i.val]? = some pb[i] := by simp
  rw [frame, getElem?_flatMap_of_length_eq bits24_length pb.toList i.val hk, hslot,
    Option.bind_some, getElem?_bits24 pb[i] hk, sym]

end Sys2Proof.Machine
end

section
/-! PROOFS. The assembler's text: blanks trimmed, digits read, and the characters that can stand in
an operand (R91, log 15). -/

namespace Sys2Proof.Machine

/-! ### Blanks -/

theorem trimBlanks_eq (t : List Char) : trimBlanks t = (t.dropWhile isBlank).rdropWhile isBlank :=
  rfl

theorem isBlank_iff (c : Char) : isBlank c = true ↔ c = ' ' ∨ c = '\t' ∨ c = '\r' := by
  simp [isBlank, or_assoc]

theorem dropWhile_append_of_exists_not {α : Type} {p : α → Bool} {u : List α}
    (hu : ∃ c ∈ u, p c = false) (v : List α) :
    (u ++ v).dropWhile p = u.dropWhile p ++ v := by
  have hne : u.dropWhile p ≠ [] := by simpa [List.dropWhile_eq_nil_iff] using hu
  rw [List.dropWhile_append, if_neg (by simpa using hne)]

theorem rdropWhile_append_of_exists_not {α : Type} {p : α → Bool} {v : List α}
    (hv : ∃ c ∈ v, p c = false) (u : List α) :
    (u ++ v).rdropWhile p = u ++ v.rdropWhile p := by
  simp [List.rdropWhile, dropWhile_append_of_exists_not (u := v.reverse) (by simpa using hv)]

/-- Between two texts that are not blank, trimming touches only the outer ends. -/
theorem trimBlanks_append {u v : List Char} (hu : ∃ c ∈ u, isBlank c = false) (m : List Char)
    (hv : ∃ c ∈ v, isBlank c = false) :
    trimBlanks (u ++ m ++ v) = u.dropWhile isBlank ++ m ++ v.rdropWhile isBlank := by
  rw [trimBlanks_eq, List.append_assoc, dropWhile_append_of_exists_not hu, ← List.append_assoc,
    rdropWhile_append_of_exists_not hv]

theorem trimBlanks_of_no_blank {t : List Char} (h : ∀ c ∈ t, isBlank c = false) :
    trimBlanks t = t := by
  have hl : t.dropWhile isBlank = t := by
    rw [List.dropWhile_eq_self_iff]
    intro hlen
    simp [h _ (List.getElem_mem hlen)]
  rw [trimBlanks_eq, hl, List.rdropWhile_eq_self_iff]
  intro hne
  simp [h _ (List.getLast_mem hne)]

theorem trimBlanks_of_blank {t : List Char} (h : ∀ c ∈ t, isBlank c = true) :
    trimBlanks t = [] := by
  rw [trimBlanks_eq, List.dropWhile_eq_nil_iff.2 h, List.rdropWhile_nil]

theorem trimBlanks_append_blanks (t : List Char) {q : List Char} (hq : ∀ c ∈ q, isBlank c = true) :
    trimBlanks (t ++ q) = trimBlanks t := by
  have hdrop (u : List Char) : (u ++ q).rdropWhile isBlank = u.rdropWhile isBlank := by
    rw [List.rdropWhile, List.reverse_append,
      List.dropWhile_append_of_pos (fun c hc => hq c (List.mem_reverse.1 hc)), List.rdropWhile]
  by_cases ht : ∃ c ∈ t, isBlank c = false
  · rw [trimBlanks_eq, dropWhile_append_of_exists_not ht, hdrop, trimBlanks_eq]
  · have hblank : ∀ c ∈ t, isBlank c = true := by simpa using ht
    rw [trimBlanks_of_blank hblank, trimBlanks_of_blank]
    intro c hc
    exact (List.mem_append.1 hc).elim (hblank c) (hq c)

theorem trimBlanks_space_cons (t : List Char) : trimBlanks (' ' :: t) = trimBlanks t := by
  have hspace : isBlank ' ' = true := by decide
  rw [trimBlanks_eq, List.dropWhile_cons_of_pos hspace, trimBlanks_eq]

@[simp] theorem trimBlanks_dropWhile (t : List Char) :
    trimBlanks (t.dropWhile isBlank) = trimBlanks t := by
  rw [trimBlanks_eq, List.dropWhile_idempotent, trimBlanks_eq]

@[simp] theorem trimBlanks_rdropWhile (t : List Char) :
    trimBlanks (t.rdropWhile isBlank) = trimBlanks t := by
  have hq : ∀ c ∈ t.rtakeWhile isBlank, isBlank c = true := fun _ => List.mem_rtakeWhile_imp
  rw [← trimBlanks_append_blanks _ hq, List.rdropWhile_append_rtakeWhile]

theorem mem_trimBlanks {t : List Char} {c : Char} (hc : c ∈ t) (hb : isBlank c = false) :
    c ∈ trimBlanks t := by
  have hdrop : c ∈ t.dropWhile isBlank := by
    rw [← List.takeWhile_append_dropWhile (p := isBlank) (l := t), List.mem_append] at hc
    refine hc.resolve_left fun htake => ?_
    simp [List.mem_takeWhile_imp htake] at hb
  rw [← List.rdropWhile_append_rtakeWhile (p := isBlank) (l := t.dropWhile isBlank),
    List.mem_append] at hdrop
  refine hdrop.resolve_right fun htake => ?_
  simp [List.mem_rtakeWhile_imp htake] at hb

/-! ### Digits -/

theorem digitsValue_append (base acc : Nat) (t u : List Char) :
    digitsValue base acc (t ++ u) = (digitsValue base acc t).bind (digitsValue base · u) := by
  induction t generalizing acc with
  | nil => rfl
  | cons c t ih =>
    rw [List.cons_append, digitsValue, digitsValue]
    cases digitValue base c with
    | none => rfl
    | some d => exact ih _

/-- The digits of a number are read as the number, in a base whose digits are. -/
theorem digitsValue_toDigits {base : Nat} (hb : 1 < base)
    (hdigit : ∀ d < base, digitValue base d.digitChar = some d) (n : Nat) :
    digitsValue base 0 (Nat.toDigits base n) = some n := by
  induction n using Nat.strongRecOn with
  | _ n ih =>
    obtain hn | hn := lt_or_ge n base
    · simp [Nat.toDigits_of_lt_base hn, digitsValue, hdigit n hn]
    · have hlast := hdigit (n % base) (Nat.mod_lt n (by omega))
      have hrest := ih (n / base) (Nat.div_lt_self (by omega) hb)
      rw [Nat.toDigits_of_base_le hb hn, digitsValue_append, hrest]
      simp [digitsValue, hlast, Nat.div_add_mod']

theorem digitValue_ten_digitChar : ∀ d < 10, digitValue 10 d.digitChar = some d := by decide

theorem digitValue_sixteen_digitChar : ∀ d < 16, digitValue 16 d.digitChar = some d := by decide

/-- Text that has a value holds digits only. -/
theorem digitValue_ne_none_of_mem {base acc v : Nat} {t : List Char} {c : Char}
    (h : digitsValue base acc t = some v) (hc : c ∈ t) : digitValue base c ≠ none := by
  induction t generalizing acc with
  | nil => cases hc
  | cons a t ih =>
    rw [digitsValue] at h
    cases ha : digitValue base a with
    | none => simp [ha] at h
    | some d =>
      simp only [ha] at h
      obtain rfl | hc := List.mem_cons.1 hc
      · simp [ha]
      · exact ih h hc

theorem digitValue_comma (base : Nat) : digitValue base ',' = none := by simp [digitValue]

theorem digitValue_hash (base : Nat) : digitValue base '#' = none := by simp [digitValue]

theorem digitValue_blank (base : Nat) {c : Char} (hc : isBlank c = true) :
    digitValue base c = none := by
  obtain rfl | rfl | rfl := (isBlank_iff c).1 hc <;> simp [digitValue]

theorem no_blank_of_digitsValue {base acc v : Nat} {t : List Char}
    (h : digitsValue base acc t = some v) : ∀ c ∈ t, isBlank c = false := by
  intro c hc
  by_contra hb
  exact digitValue_ne_none_of_mem h hc (digitValue_blank base (by simpa using hb))

/-! ### Operands -/

/-- An operand with a value is digits, decimal or after `0x`, between blanks. -/
theorem operandValue_eq_some {t : List Char} {v : Nat} (h : operandValue t = some v) :
    (trimBlanks t ≠ [] ∧ digitsValue 10 0 (trimBlanks t) = some v) ∨
      ∃ ds, trimBlanks t = '0' :: 'x' :: ds ∧ digitsValue 16 0 ds = some v := by
  unfold operandValue at h
  split at h
  · cases h
  · cases h
  · next ds _ ht => exact .inr ⟨ds, ht, h⟩
  · next hne _ _ => exact .inl ⟨hne, h⟩

theorem operandValue_of_trimBlanks_eq {t u : List Char} (h : trimBlanks t = trimBlanks u) :
    operandValue t = operandValue u := by
  rw [operandValue, h, operandValue]

theorem operandValue_decimal {ds : List Char} {v : Nat} (hne : ds ≠ [])
    (h : digitsValue 10 0 ds = some v) : operandValue ds = some v := by
  have hx : digitValue 10 'x' = none := by decide
  rw [operandValue, trimBlanks_of_no_blank (no_blank_of_digitsValue h)]
  split
  · exact absurd rfl hne
  · exact absurd hx (digitValue_ne_none_of_mem h (by simp))
  · exact absurd hx (digitValue_ne_none_of_mem h (by simp))
  · exact h

theorem operandValue_hexadecimal {ds : List Char} {v : Nat} (hne : ds ≠ [])
    (h : digitsValue 16 0 ds = some v) : operandValue ('0' :: 'x' :: ds) = some v := by
  have hblank : ∀ c ∈ '0' :: 'x' :: ds, isBlank c = false := by
    simpa [isBlank] using no_blank_of_digitsValue h
  rw [operandValue, trimBlanks_of_no_blank hblank]
  obtain ⟨d, ds, rfl⟩ := List.exists_cons_of_ne_nil hne
  exact h

/-- A character that is no blank, no digit and not `x` stands in no operand. -/
theorem not_mem_of_operandValue {t : List Char} {v : Nat} (h : operandValue t = some v) {c : Char}
    (hb : isBlank c = false) (hx : c ≠ 'x') (hd : ∀ base, digitValue base c = none)
    (h0 : c ≠ '0') : c ∉ t := by
  intro hc
  have hmem := mem_trimBlanks hc hb
  obtain ⟨-, hv⟩ | ⟨ds, ht, hv⟩ := operandValue_eq_some h
  · exact digitValue_ne_none_of_mem hv hmem (hd 10)
  · rw [ht] at hmem
    have hds : c ∈ ds := by simpa [h0, hx] using hmem
    exact digitValue_ne_none_of_mem hv hds (hd 16)

theorem comma_not_mem_of_operandValue {t : List Char} {v : Nat} (h : operandValue t = some v) :
    ',' ∉ t :=
  not_mem_of_operandValue h (by decide) (by decide) digitValue_comma (by decide)

theorem hash_not_mem_of_operandValue {t : List Char} {v : Nat} (h : operandValue t = some v) :
    '#' ∉ t :=
  not_mem_of_operandValue h (by decide) (by decide) digitValue_hash (by decide)

theorem exists_not_blank_of_operandValue {t : List Char} {v : Nat} (h : operandValue t = some v) :
    ∃ c ∈ t, isBlank c = false := by
  by_contra hblank
  have ht : trimBlanks t = [] := trimBlanks_of_blank (by simpa using hblank)
  rw [operandValue, ht] at h
  cases h

end Sys2Proof.Machine
end

section
/-! PROOFS. The assembler's lines: what it accepts has a command word, and which lines it reads as
which command (R91). -/

namespace Sys2Proof.Machine

/-! ### What is accepted -/

/-- The text after the mnemonic of a line. -/
def operandText (line : List Char) : List Char :=
  trimBlanks ((trimBlanks (dropComment line)).dropWhile isNameChar)

/-- An accepted line is a command without operands or a SET_PIXEL with its operands. -/
theorem assembleLine_eq_command {line : List Char} {i : Instr}
    (h : assembleLine line = .command i) :
    (i = .init ∨ i = .clear ∨ i = .render) ∨ pixelCommand (operandText line) = .command i := by
  unfold assembleLine at h
  dsimp only at h
  split_ifs at h
  · exact .inl (.inl ((bareCommand_eq_command _ _ _).1 h).2.symm)
  · exact .inl (.inr (.inl ((bareCommand_eq_command _ _ _).1 h).2.symm))
  · exact .inl (.inr (.inr ((bareCommand_eq_command _ _ _).1 h).2.symm))
  · exact .inr h

/-- An accepted SET_PIXEL has the values of its five operands, each within its field. -/
theorem pixelCommand_operands {operands : List Char} {i : Instr}
    (h : pixelCommand operands = .command i) :
    ∃ x y r g b : Nat,
      (splitCommas [] operands).map operandValue = [some x, some y, some r, some g, some b] ∧
        (x ≤ 7 ∧ y ≤ 7 ∧ r ≤ 255 ∧ g ≤ 255 ∧ b ≤ 255) ∧
        i = .setPixel x y (BitVec.ofNat 8 r) (BitVec.ofNat 8 g) (BitVec.ofNat 8 b) := by
  obtain ⟨x, y, r, g, b, hsplit, hset⟩ := (pixelCommand_eq_command operands i).1 h
  exact ⟨x, y, r, g, b, hsplit, (setPixelOf_eq_command x y r g b i).1 hset⟩

theorem assembleLine_wellFormed {line : List Char} {i : Instr}
    (h : assembleLine line = .command i) : i.wellFormed = true := by
  obtain (rfl | rfl | rfl) | hpixel := assembleLine_eq_command h
  · rfl
  · rfl
  · rfl
  · obtain ⟨x, y, r, g, b, -, ⟨hx, hy, -⟩, rfl⟩ := pixelCommand_operands hpixel
    simp [Instr.wellFormed, coordFits_iff, hx, hy]

theorem toNat_ofNat_of_le {v : Nat} (h : v ≤ 255) : (BitVec.ofNat 8 v).toNat = v := by
  rw [BitVec.toNat_ofNat]
  omega

/-- Settles O5: the fields hold the operand values whole, and decoding undoes encoding (O3). -/
theorem assemblerAcceptsOnlyWhatAWordSpells : Obligations.AssemblerAcceptsOnlyWhatAWordSpells := by
  intro line i h
  have hwf := assembleLine_wellFormed h
  refine ⟨hwf, decodeOfEncodeIsTheCommand i hwf, ?_⟩
  rintro x y r g b rfl
  have hpixel := (assembleLine_eq_command h).resolve_left (by simp)
  obtain ⟨x', y', r', g', b', hsplit, ⟨-, -, hr, hg, hb⟩, heq⟩ := pixelCommand_operands hpixel
  injection heq with hx hy hr' hg' hb'
  subst hx hy hr' hg' hb'
  rw [toNat_ofNat_of_le hr, toNat_ofNat_of_le hg, toNat_ofNat_of_le hb]
  exact hsplit

/-! ### What is read -/

theorem dropComment_of_no_hash {t : List Char} (h : '#' ∉ t) : dropComment t = t := by
  rw [dropComment, List.takeWhile_eq_self_iff]
  intro c hc
  simpa using fun he : c = '#' => h (he ▸ hc)

/-- The mnemonic of SET_PIXEL in capitals or lower case. -/
def IsSetPixelName (name : List Char) : Prop :=
  name = "SET_PIXEL".toList ∨ name = "set_pixel".toList

section SetPixelName

variable {name : List Char} (hname : IsSetPixelName name)

include hname

theorem IsSetPixelName.isNameChar_of_mem : ∀ c ∈ name, isNameChar c = true := by
  have h : name.all isNameChar = true := by obtain rfl | rfl := hname <;> decide
  exact List.all_eq_true.1 h

theorem IsSetPixelName.map_toUpper :
    name.map Char.toUpper = ['S', 'E', 'T', '_', 'P', 'I', 'X', 'E', 'L'] := by
  obtain rfl | rfl := hname <;> decide

theorem IsSetPixelName.hash_not_mem : '#' ∉ name := by
  obtain rfl | rfl := hname <;> decide

theorem IsSetPixelName.dropWhile_isBlank : (name ++ [' ']).dropWhile isBlank = name ++ [' '] := by
  obtain rfl | rfl := hname <;> decide

theorem IsSetPixelName.exists_not_blank : ∃ c ∈ name ++ [' '], isBlank c = false := by
  have h : (name ++ [' ']).any (!isBlank ·) = true := by obtain rfl | rfl := hname <;> decide
  simpa only [List.any_eq_true, Bool.not_eq_true'] using h

/-- The mnemonic and a blank before text that is not blank give SET_PIXEL of that text. -/
theorem assembleLine_setPixelName {text : List Char} (hhash : '#' ∉ text)
    (htext : ∃ c ∈ text, isBlank c = false) :
    assembleLine (name ++ ' ' :: text) = pixelCommand (trimBlanks text) := by
  have hcomment : dropComment (name ++ ' ' :: text) = name ++ ' ' :: text :=
    dropComment_of_no_hash (by simpa [hname.hash_not_mem] using hhash)
  have hline : trimBlanks (name ++ ' ' :: text) = name ++ ' ' :: text.rdropWhile isBlank := by
    simpa [hname.dropWhile_isBlank] using trimBlanks_append hname.exists_not_blank [] htext
  have hoperands : trimBlanks (' ' :: text.rdropWhile isBlank) = trimBlanks text := by
    rw [trimBlanks_space_cons, trimBlanks_rdropWhile]
  have hchars := hname.isNameChar_of_mem
  have hspace : isNameChar ' ' = false := by decide
  simp [assembleLine, hcomment, hline, List.takeWhile_append_of_pos hchars,
    List.dropWhile_append_of_pos hchars, hspace, hname.map_toUpper, hoperands]

end SetPixelName

/-- Five operand texts separated by commas. -/
def fiveOperands (tx ty tr tg tb : List Char) : List Char :=
  tx ++ ',' :: (ty ++ ',' :: (tr ++ ',' :: (tg ++ ',' :: tb)))

section FiveOperands

variable {tx ty tr tg tb : List Char} {x y r g b : Nat}
  (hx : operandValue tx = some x) (hy : operandValue ty = some y) (hr : operandValue tr = some r)
  (hg : operandValue tg = some g) (hb : operandValue tb = some b)

include hx hy hr hg hb

theorem hash_not_mem_fiveOperands : '#' ∉ fiveOperands tx ty tr tg tb := by
  simp [fiveOperands, hash_not_mem_of_operandValue hx, hash_not_mem_of_operandValue hy,
    hash_not_mem_of_operandValue hr, hash_not_mem_of_operandValue hg,
    hash_not_mem_of_operandValue hb]

theorem pixelCommand_fiveOperands :
    pixelCommand (fiveOperands tx ty tr tg tb) = setPixelOf x y r g b := by
  rw [pixelCommand, fiveOperands, splitCommas_cons _ _ _ (comma_not_mem_of_operandValue hx),
    splitCommas_cons _ _ _ (comma_not_mem_of_operandValue hy),
    splitCommas_cons _ _ _ (comma_not_mem_of_operandValue hr),
    splitCommas_cons _ _ _ (comma_not_mem_of_operandValue hg),
    splitCommas_one _ _ (comma_not_mem_of_operandValue hb)]
  simp [hx, hy, hr, hg, hb]

omit hy hr hg in
theorem trimBlanks_fiveOperands :
    trimBlanks (fiveOperands tx ty tr tg tb) =
      fiveOperands (tx.dropWhile isBlank) ty tr tg (tb.rdropWhile isBlank) := by
  simpa [fiveOperands] using trimBlanks_append (exists_not_blank_of_operandValue hx)
    (',' :: (ty ++ ',' :: (tr ++ ',' :: (tg ++ [','])))) (exists_not_blank_of_operandValue hb)

/-- The mnemonic, a blank and five operands are SET_PIXEL of their values in order. -/
theorem assembleLine_fiveOperands {name : List Char} (hname : IsSetPixelName name) :
    assembleLine (name ++ ' ' :: fiveOperands tx ty tr tg tb) = setPixelOf x y r g b := by
  have hcomma : ∃ c ∈ fiveOperands tx ty tr tg tb, isBlank c = false :=
    ⟨',', by simp [fiveOperands], by decide⟩
  have hx' : operandValue (tx.dropWhile isBlank) = some x :=
    (operandValue_of_trimBlanks_eq (trimBlanks_dropWhile tx)).trans hx
  have hb' : operandValue (tb.rdropWhile isBlank) = some b :=
    (operandValue_of_trimBlanks_eq (trimBlanks_rdropWhile tb)).trans hb
  rw [assembleLine_setPixelName hname (hash_not_mem_fiveOperands hx hy hr hg hb) hcomma,
    trimBlanks_fiveOperands hx hb, pixelCommand_fiveOperands hx' hy hr hg hb']

end FiveOperands

/-- Settles O59: the mnemonics by evaluation, numbers by their digits, SET_PIXEL by its five
pieces. -/
theorem assemblerReadsFiveOperandsInOrder : Obligations.AssemblerReadsFiveOperandsInOrder := by
  refine ⟨by decide, by decide, by decide, fun n => ⟨?_, ?_⟩, ?_⟩
  · exact operandValue_decimal Nat.toDigits_ne_nil
      (digitsValue_toDigits (by decide) digitValue_ten_digitChar n)
  · exact operandValue_hexadecimal Nat.toDigits_ne_nil
      (digitsValue_toDigits (by decide) digitValue_sixteen_digitChar n)
  · intro name hname tx ty tr tg tb x y r g b hx hy hr hg hb
    obtain ⟨word, hword, rfl⟩ : ∃ word, IsSetPixelName word ∧ name = word ++ [' '] := by
      obtain rfl | rfl : name = "SET_PIXEL ".toList ∨ name = "set_pixel ".toList := by
        simpa using hname
      · exact ⟨_, .inl rfl, by decide⟩
      · exact ⟨_, .inr rfl, by decide⟩
    simpa [fiveOperands, setPixelOf] using assembleLine_fiveOperands hx hy hr hg hb hword

end Sys2Proof.Machine
end

section
/-! PROOFS. The coordinate mapper (40_coordinate_mapper.md): row' and the place in the row are the
quotient and the remainder of the slot number by 5, and each gives its coordinate back. -/

namespace Sys2Proof.Machine

@[simp] theorem physicalRow_val (y : Fin 5) : (physicalRow y).val = 4 - y.val := rfl

theorem slotColumn_of_even {row : Fin 5} (h : row.val % 2 = 0) (c : Fin 5) :
    slotColumn row c = c := if_pos h

theorem slotColumn_val_of_odd {row : Fin 5} (h : row.val % 2 = 1) (c : Fin 5) :
    (slotColumn row c).val = 4 - c.val := by
  rw [slotColumn, if_neg (by omega)]

theorem slotColumn_val (row c : Fin 5) :
    (slotColumn row c).val = if row.val % 2 = 0 then c.val else 4 - c.val := by
  split
  · next h => rw [slotColumn_of_even h]
  · next h => exact slotColumn_val_of_odd (by omega) c

/-- Place and column are the same function of each other. -/
@[simp] theorem slotColumn_slotColumn (row c : Fin 5) :
    slotColumn row (slotColumn row c) = c := by
  apply Fin.ext
  obtain h | h := Nat.mod_two_eq_zero_or_one row.val
  · rw [slotColumn_of_even h, slotColumn_of_even h]
  · rw [slotColumn_val_of_odd h, slotColumn_val_of_odd h]
    omega

@[simp] theorem physicalRow_slotRow (row : Fin 5) : physicalRow (slotRow row) = row :=
  Fin.ext (Nat.sub_sub_self (Nat.le_of_lt_succ row.isLt))

/-- The serpentine rule in one piece (R102): row' counts fives, the place counts ones. -/
theorem index_val (x y : Fin 5) :
    (index x y).val = (physicalRow y).val * 5 + (slotColumn (physicalRow y) x).val := by
  rw [index, slotColumn]
  split <;> rfl

theorem index_val_div_five (x y : Fin 5) : (index x y).val / 5 = (physicalRow y).val := by
  rw [index_val]
  omega

theorem index_val_mod_five (x y : Fin 5) :
    (index x y).val % 5 = (slotColumn (physicalRow y) x).val := by
  rw [index_val]
  omega

theorem index_slotColumn_slotRow_val (row c : Fin 5) :
    (index (slotColumn row c) (slotRow row)).val = row.val * 5 + c.val := by
  rw [index_val, physicalRow_slotRow, slotColumn_slotColumn]

/-- Every slot is reached (R104). -/
theorem index_surjective (k : Fin 25) : ∃ x y : Fin 5, index x y = k := by
  have hrow : k.val / 5 < 5 := by omega
  have hplace : k.val % 5 < 5 := Nat.mod_lt _ (by decide)
  refine ⟨slotColumn ⟨k.val / 5, hrow⟩ ⟨k.val % 5, hplace⟩, slotRow ⟨k.val / 5, hrow⟩, Fin.ext ?_⟩
  rw [index_slotColumn_slotRow_val]
  exact Nat.div_add_mod' k.val 5

/-- The row comes back from the slot (R104). -/
theorem row_eq_of_index (x y : Fin 5) : y.val = 4 - (index x y).val / 5 := by
  rw [index_val_div_five, physicalRow_val]
  omega

/-- The column comes back from the slot (R104). -/
theorem column_eq_of_index (x y : Fin 5) :
    x.val = if (index x y).val / 5 % 2 = 0 then (index x y).val % 5
      else 4 - (index x y).val % 5 := by
  rw [index_val_div_five, index_val_mod_five, ← slotColumn_val, slotColumn_slotColumn]

/-- Settles O6: the place in an even row' is x, in an odd one 4 - x. -/
theorem mapperFollowsTheSerpentineRule : Obligations.MapperFollowsTheSerpentineRule := by
  intro x y
  refine ⟨physicalRow_val y, fun heven => ?_, fun hodd => ?_⟩
  · rw [index_val, slotColumn_of_even heven, physicalRow_val]
  · rw [index_val, slotColumn_val_of_odd hodd, physicalRow_val]

/-- Settles O7: every slot has a row' and a place, and these give y and x back. -/
theorem mapperIsABijectionWithItsInverse : Obligations.MapperIsABijectionWithItsInverse :=
  ⟨index_surjective, fun x y => ⟨row_eq_of_index x y, column_eq_of_index x y⟩⟩

end Sys2Proof.Machine
end

section
/-! PROOFS. The packer and the staging commands CLEAR and SET_PIXEL (41_buffer_commands.md): the
packed word by its fields, and what each command answers at an idle command processor. -/

namespace Sys2Proof.Machine

/-! ### The packer -/

/-- The four fields of the packed word, put together from the top (R21, R120). -/
theorem pack_eq_append (r g b : Chan) : pack r g b = 0x00#8 ++ g ++ r ++ b := by
  have hfields : (pack r g b).extractLsb' 24 8 ++ (pack r g b).extractLsb' 16 8 ++
      (pack r g b).extractLsb' 8 8 ++ (pack r g b).extractLsb' 0 8 = pack r g b := by
    iterate 3 rw [BitVec.extractLsb'_append_extractLsb'_eq_extractLsb' (by rfl)]
    exact BitVec.extractLsb'_eq_self
  rw [← hfields, pack_upper, pack_green, pack_red, pack_blue]

/-- Each channel is a field of the packed word, so equal words come from equal channels (R120). -/
theorem pack_injective {r g b r' g' b' : Chan} (h : pack r g b = pack r' g' b') :
    r = r' ∧ g = g' ∧ b = b' := by
  refine ⟨?_, ?_, ?_⟩
  · rw [← pack_red r g b, h, pack_red]
  · rw [← pack_green r g b, h, pack_green]
  · rw [← pack_blue r g b, h, pack_blue]

/-- Settles O8: the packed word has its channels as fields; the fixed words are evaluated. -/
theorem packerPutsGreenRedBlue : Obligations.PackerPutsGreenRedBlue :=
  ⟨fun r g b => ⟨pack_eq_append r g b, rfl⟩, fun _ _ _ _ _ _ => pack_injective,
    by decide, by decide, by decide⟩

/-! ### CLEAR -/

theorem exec_clear {s : State} (hc : s.cpst = .idle) : exec .clear s = .next s.clearSlots :=
  (execClear_eq_next s _).2 ⟨hc, rfl⟩

@[simp] theorem State.clearSlots_clearSlots (s : State) :
    s.clearSlots.clearSlots = s.clearSlots := rfl

theorem bits24_zero : bits24 0#32 = List.replicate 24 .s0 := by decide

/-- 25 dark slots are sent as 25 times 24 symbols S0 (R121, R155). -/
theorem frame_replicate_zero : frame (Vector.replicate 25 0#32) = List.replicate 600 .s0 := by
  rw [frame, Vector.toList_replicate, List.flatMap_replicate, bits24_zero,
    List.flatten_replicate_replicate]

/-- Settles O12: CLEAR answers the state with every slot cleared, and clearing again is as once. -/
theorem clearZeroesEverySlotAndNothingElse : Obligations.ClearZeroesEverySlotAndNothingElse := by
  refine ⟨rfl, fun s hc => ⟨s.clearSlots, exec_clear hc, s.slot_clearSlots, rfl, ?_,
    frame_replicate_zero⟩⟩
  have hidle : s.clearSlots.cpst = .idle := hc
  rw [exec_clear hidle, State.clearSlots_clearSlots]

/-! ### SET_PIXEL -/

/-- An integer the range check lets through is a coordinate of the mapper (R123). -/
theorem exists_coord_eq {v : Int} (h0 : 0 ≤ v) (h4 : v ≤ 4) : ∃ c : Fin 5, (c.val : Int) = v :=
  ⟨⟨v.toNat, by omega⟩, Int.toNat_of_nonneg h0⟩

/-- The serpentine rule on integers (R101, R102). -/
theorem index_val_int (cx cy : Fin 5) :
    ((index cx cy).val : Int) =
      if (4 - (cy.val : Int)) % 2 = 0 then (4 - (cy.val : Int)) * 5 + cx.val
      else (4 - (cy.val : Int)) * 5 + (4 - cx.val) := by
  obtain ⟨-, heven, hodd⟩ := mapperFollowsTheSerpentineRule cx cy
  split
  · rw [heven (by omega)]; omega
  · rw [hodd (by omega)]; omega

section

variable {s : State} (hc : s.cpst = .idle)
include hc

theorem exec_setPixel_inRange (hi : s.inited = true) (cx cy : Fin 5) (r g b : Chan) :
    exec (.setPixel cx.val cy.val r g b) s = .next (s.writeSlot (index cx cy) (pack r g b)) :=
  (execSetPixel_eq_next _ _ r g b s _).2
    ⟨hc, hi, .inl ⟨cx, cy, (coords?_eq_some _ _ cx cy).2 ⟨rfl, rfl⟩, rfl⟩⟩

theorem exec_setPixel_outOfRange (hi : s.inited = true) {x y : Int}
    (hout : ¬ ((0 ≤ x ∧ x ≤ 4) ∧ (0 ≤ y ∧ y ≤ 4))) (r g b : Chan) :
    exec (.setPixel x y r g b) s = .next s :=
  (execSetPixel_eq_next x y r g b s s).2 ⟨hc, hi, .inr ⟨(coords?_eq_none x y).2 hout, rfl⟩⟩

theorem exec_setPixel_beforeInit (hi : s.inited = false) (x y : Int) (r g b : Chan) :
    exec (.setPixel x y r g b) s = .fault .setPixelBeforeInit :=
  (execSetPixel_eq_fault x y r g b s _).2 ⟨hc, hi, rfl⟩

end

/-- Settles O13: the slot is the mapper's, and the write leaves every other one. -/
theorem setPixelStoresThePackedWordInItsSlot :
    Obligations.SetPixelStoresThePackedWordInItsSlot := by
  intro s x y r g b hc hi hx0 hx4 hy0 hy4
  obtain ⟨cx, rfl⟩ := exists_coord_eq hx0 hx4
  obtain ⟨cy, rfl⟩ := exists_coord_eq hy0 hy4
  refine ⟨_, index cx cy, exec_setPixel_inRange hc hi cx cy r g b, index_val_int cx cy, ?_, ?_, rfl⟩
  · rw [State.slot_writeSlot_same, pack_eq_append]
  · exact fun j hj => s.slot_writeSlot_other (index cx cy) j _ hj

/-- Settles O14: the range check gives no coordinate. -/
theorem setPixelOutOfRangeChangesNothing : Obligations.SetPixelOutOfRangeChangesNothing :=
  fun _ _ _ r g b hc hi hout => exec_setPixel_outOfRange hc hi (by omega) r g b

/-- Settles O15: the INIT precondition comes before the range check. -/
theorem setPixelBeforeInitIsUndefined : Obligations.SetPixelBeforeInitIsUndefined :=
  fun _ x y r g b hc hi => exec_setPixel_beforeInit hc hi x y r g b

end Sys2Proof.Machine
end

section
/-! PROOFS. The committed symbols (R155): how each operation a step is made of moves the sequence of
what is sent and what is still held; only an accepted RENDER lengthens it. -/

namespace Sys2Proof.Machine

/-! ### Each operation -/

@[simp] theorem State.unpushed_of_idle {s : State} (hc : s.cpst = .idle) : s.unpushed = [] := by
  rw [State.unpushed, hc]

theorem State.unpushed_of_rendering {s : State} (hc : s.cpst = .rendering) :
    s.unpushed = (s.pb.toList.drop s.ridx).flatMap bits24 := by
  rw [State.unpushed, hc]

@[simp] theorem State.committed_passTurn (s : State) : s.passTurn.committed = s.committed := rfl

@[simp] theorem State.committed_takeCommand (s : State) (rest : List HostItem) :
    (s.takeCommand rest).committed = s.committed := rfl

/-- The accept step puts all 25 slots among what is to be pushed (R141). -/
theorem State.committed_beginRender {s : State} (hc : s.cpst = .idle) :
    s.beginRender.committed = s.committed ++ frame s.pb := by
  have hbefore := State.unpushed_of_idle hc
  have hafter : s.beginRender.unpushed = frame s.pb := rfl
  simp [State.committed, State.pending, hbefore, hafter]

/-- A push leaves the slots after the one it pushes, none after slot 24 (R142). -/
theorem State.unpushed_endPush {s : State} (hc : s.cpst = .rendering) :
    s.endPush.unpushed = (s.pb.toList.drop (s.ridx + 1)).flatMap bits24 := by
  by_cases hlast : s.ridx = 24
  · have hnone : s.pb.toList.drop (s.ridx + 1) = [] := List.drop_of_length_le (by simp [hlast])
    rw [State.unpushed_of_idle (by simp [hlast]), hnone, List.flatMap_nil]
  · rw [State.unpushed_of_rendering (by simp [hlast, hc])]
    rfl

/-- A push moves the symbols of its slot from the buffer to the queue (R142, R145). -/
theorem State.committed_push {s : State} (hc : s.cpst = .rendering) (hr : s.ridx < 25) :
    (s.enqueue (transmitWord (s.slot ⟨s.ridx, hr⟩))).endPush.committed = s.committed := by
  simp [State.committed, State.pending, State.unpushed_endPush, State.unpushed_of_rendering, hc,
    s.slots_from hr, leadingSymbols_transmitWord]

/-- A shift moves the first held symbol to the wire (R150). -/
theorem State.committed_shift {s : State} (hb : 0 < s.bcnt) (hle : s.bcnt ≤ 24) :
    s.shift.committed = s.committed := by
  have hfirst := leadingSymbols_shift s.osr s.bcnt hb hle
  have hunpushed : s.shift.unpushed = s.unpushed := rfl
  rw [State.committed, State.committed, State.pending, State.pending, hunpushed, hfirst]
  simp [State.shift]

/-- A pull moves the head of the queue to the shift register (R149). -/
theorem State.committed_loadShifter {s : State} (hb : s.bcnt = 0) {w : Word} {ws : List Word}
    (hq : s.txq = w :: ws) : (s.loadShifter w ws).committed = s.committed := by
  have hunpushed : (s.loadShifter w ws).unpushed = s.unpushed := rfl
  simp [State.committed, State.pending, hb, hq, hunpushed]

/-! ### The commands and the step -/

/-- RENDER alone leaves CP rendering (R28, R141). -/
theorem exec_cpst {i : Instr} {s t : State} (h : exec i s = .next t) :
    t.cpst = if i = .render then .rendering else .idle := by
  have hc := exec_idle h
  obtain ⟨rfl, -, rfl⟩ | ⟨rfl, rfl⟩ | ⟨x, y, r, g, b, rfl, -, ⟨cx, cy, -, rfl⟩ | ⟨-, rfl⟩⟩ |
    ⟨rfl, -, rfl⟩ := exec_cases h
  case inr.inr.inr => rfl
  all_goals exact hc

/-- Outside a RENDER the buffer holds nothing to be sent, whatever its slots are. -/
theorem State.committed_of_idle {s : State} (hc : s.cpst = .idle) :
    s.committed =
      s.wire ++ (leadingSymbols s.osr s.bcnt ++ s.txq.flatMap (leadingSymbols · 24)) := by
  rw [State.committed, State.pending, State.unpushed_of_idle hc, List.append_nil]

/-- RENDER alone commits symbols: those of the buffer as it is (R60, R155). -/
theorem exec_committed {i : Instr} {s t : State} (h : exec i s = .next t) :
    t.committed = s.committed ++ if i = .render then frame s.pb else [] := by
  have hc := exec_idle h
  by_cases hi : i = .render
  · subst hi
    obtain ⟨-, -, rfl⟩ := (execRender_eq_next s t).1 h
    exact State.committed_beginRender hc
  · have ht : t.cpst = .idle := by rw [exec_cpst h, if_neg hi]
    obtain ⟨htxq, hosr, hbcnt, hwire, -⟩ := exec_frame h
    rw [State.committed_of_idle hc, State.committed_of_idle ht, htxq, hosr, hbcnt, hwire, if_neg hi,
      List.append_nil]

/-- What a step that accepts no command keeps: the committed symbols, of which it moves some on but
loses, repeats and reorders none, and all a command could change. -/
structure State.SameProgress (s t : State) : Prop where
  committed : t.committed = s.committed
  hostq : t.hostq = s.hostq
  pb : t.pb = s.pb
  inited : t.inited = s.inited
  rendering : t.cpst = .rendering → s.cpst = .rendering

theorem step_accepts_or_sameProgress {s t : State} (hinv : s.Inv) (h : step s = .next t) :
    (∃ c, s.hostq = c :: t.hostq ∧ exec c.instr (s.passTurn.takeCommand t.hostq) = .next t) ∨
      s.SameProgress t := by
  obtain ⟨-, ⟨rfl, -, -⟩ | ⟨-, c, rest, hq, he⟩ | ⟨hc, -, hr, rfl⟩ | ⟨-, hb, rfl⟩ |
    ⟨-, hb, w, ws, hq, rfl⟩⟩ := step_cases h
  · exact .inr ⟨rfl, rfl, rfl, rfl, id⟩
  · obtain ⟨-, -, -, -, -, -, hrest, -, -⟩ := exec_frame he
    rw [State.takeCommand_hostq] at hrest
    subst hrest
    exact .inl ⟨c, hq, he⟩
  · exact .inr ⟨State.committed_push (s := s.passTurn) hc hr, rfl, rfl, rfl, fun _ => hc⟩
  · exact .inr ⟨State.committed_shift (s := s.passTurn) hb hinv.bcnt, rfl, rfl, rfl, id⟩
  · exact .inr ⟨State.committed_loadShifter (s := s.passTurn) hb hq, rfl, rfl, rfl, id⟩

/-- Settles O50: a step accepts a command, which commits a frame if it is RENDER, or moves on what
is committed. -/
theorem stepCommitsExactlyTheFramesOfAcceptedRenders :
    Obligations.StepCommitsExactlyTheFramesOfAcceptedRenders := by
  intro s t hinv h
  obtain ⟨c, -, he⟩ | hsame := step_accepts_or_sameProgress hinv h
  · have hidle : (s.passTurn.takeCommand t.hostq).cpst = .idle := exec_idle he
    have hcpst := exec_cpst he
    have hcommitted := exec_committed he
    by_cases hi : c.instr = .render
    · rw [if_pos hi] at hcpst hcommitted
      exact .inl ⟨hidle, hcpst, hcommitted⟩
    · rw [if_neg hi] at hcpst hcommitted
      exact .inr ⟨by simp [hcpst], by simpa using hcommitted⟩
  · exact .inr ⟨fun ⟨hidle, hrender⟩ =>
      absurd (hidle.symm.trans (hsame.rendering hrender)) nofun, hsame.committed⟩

end Sys2Proof.Machine
end

section
/-! PROOFS. The reference pictures (R155): the picture a buffer holds follows the commands as the
reference says, and its symbols along the serpentine are the frame of the buffer. -/

namespace Sys2Proof.Machine

/-! ### The serpentine -/

/-- Row' by row' and place by place, the mapper runs through the slots in order (R51, R104). -/
theorem slots_along_the_serpentine :
    ((List.finRange 5).flatMap fun row => (List.finRange 5).map fun c =>
      index (slotColumn row c) (slotRow row)) = List.finRange 25 := by
  decide

theorem toList_eq_map_finRange (pb : Vector Word 25) :
    pb.toList = (List.finRange 25).map fun i => pb[i] := by
  apply List.ext_getElem <;> simp

/-- The frame of a buffer is its picture along the serpentine (R90, R155). -/
theorem frame_eq_symbols (pb : Vector Word 25) : frame pb = (pictureOf pb).symbols := by
  rw [frame, toList_eq_map_finRange, ← slots_along_the_serpentine, List.flatMap_map,
    List.flatMap_assoc, Picture.symbols]
  simp only [List.flatMap_map, bits24_eq_rgb]
  rfl

/-! ### The picture of a buffer -/

/-- The mapper gives two coordinates two slots (R104). -/
theorem index_inj {x y x' y' : Fin 5} (h : index x y = index x' y') : x = x' ∧ y = y' := by
  refine ⟨Fin.ext ?_, Fin.ext ?_⟩
  · rw [column_eq_of_index x y, column_eq_of_index x' y', h]
  · rw [row_eq_of_index x y, row_eq_of_index x' y', h]

theorem pictureOf_replicate_zero : pictureOf (Vector.replicate 25 0#32) = Picture.black := by
  funext x y
  simp [pictureOf, Picture.black]

/-- Storing a packed word sets the pixel of its slot (R122). -/
theorem pictureOf_set (pb : Vector Word 25) (cx cy : Fin 5) (r g b : Chan) :
    pictureOf (pb.set (index cx cy) (pack r g b)) =
      (pictureOf pb).stage (.setPixel cx.val cy.val r g b) := by
  funext x y
  by_cases hxy : x = cx ∧ y = cy
  · obtain ⟨rfl, rfl⟩ := hxy
    simp [pictureOf, Picture.stage, pack_red, pack_green, pack_blue]
  · have hne : (index cx cy).val ≠ (index x y).val := fun he =>
      hxy ((index_inj (Fin.ext he)).imp Eq.symm Eq.symm)
    have hpixel : ¬ ((x.val : Int) = cx.val ∧ (y.val : Int) = cy.val) := by
      simpa [Fin.ext_iff] using hxy
    have hother : (pictureOf pb).stage (.setPixel cx.val cy.val r g b) x y = pictureOf pb x y :=
      if_neg hpixel
    rw [hother]
    simp [pictureOf, Vector.getElem_set_ne, hne]

/-- Out of range no pixel is staged (R123). -/
theorem stage_setPixel_outOfRange {x y : Int} (h : coords? x y = none) (p : Picture)
    (r g b : Chan) : p.stage (.setPixel x y r g b) = p := by
  have hout := (coords?_eq_none x y).1 h
  funext cx cy
  have hpixel : ¬ ((cx.val : Int) = x ∧ (cy.val : Int) = y) := by omega
  simp only [Picture.stage, hpixel, if_false]

/-- A command does to the buffer what the reference does to its picture (R121, R122, R123). -/
theorem exec_picture {i : Instr} {s t : State} (h : exec i s = .next t) :
    pictureOf t.pb = (pictureOf s.pb).stage i := by
  obtain ⟨rfl, -, rfl⟩ | ⟨rfl, rfl⟩ | ⟨x, y, r, g, b, rfl, -, ⟨cx, cy, hxy, rfl⟩ | ⟨hxy, rfl⟩⟩ |
    ⟨rfl, -, rfl⟩ := exec_cases h
  · rfl
  · exact pictureOf_replicate_zero
  · obtain ⟨rfl, rfl⟩ := (coords?_eq_some x y cx cy).1 hxy
    exact pictureOf_set s.pb cx cy r g b
  · exact (stage_setPixel_outOfRange hxy _ r g b).symm
  · rfl

/-- Slots whose upper 8 bits are 0 hold their pixel and nothing else (R22). -/
theorem eq_pack_of_upper_zero {v : Word} (h : v.extractLsb' 24 8 = 0#8) :
    v = pack (v.extractLsb' 8 8) (v.extractLsb' 16 8) (v.extractLsb' 0 8) := by
  rw [pack_eq_append, ← h]
  iterate 3 rw [BitVec.extractLsb'_append_extractLsb'_eq_extractLsb' (by rfl)]
  exact BitVec.extractLsb'_eq_self.symm

theorem State.Inv.slot_eq_pack {s : State} (h : s.Inv) (x y : Fin 5) :
    s.slot (index x y) =
      pack (pictureOf s.pb x y).r (pictureOf s.pb x y).g (pictureOf s.pb x y).b :=
  eq_pack_of_upper_zero (h.slots (index x y))

/-- On states of the invariant the picture determines the buffer. -/
theorem State.Inv.pb_eq_of_pictureOf_eq {s t : State} (hs : s.Inv) (ht : t.Inv)
    (h : pictureOf s.pb = pictureOf t.pb) : s.pb = t.pb := by
  have hslot (k : Fin 25) : s.slot k = t.slot k := by
    obtain ⟨x, y, rfl⟩ := index_surjective k
    rw [hs.slot_eq_pack, ht.slot_eq_pack, h]
  exact Vector.ext fun i hi => hslot ⟨i, hi⟩

/-! ### The frames of a program -/

theorem frames_cons (p : Picture) (c : Instr) (cs : List Instr) :
    p.frames (c :: cs) = (if c = .render then [p] else []) ++ (p.stage c).frames cs := by
  cases c <;> rfl

end Sys2Proof.Machine
end

section
/-! PROOFS. The wire theorem (R155). What a state will have sent, and the picture and INITED it will
end with, are the same after every step: `State.outlook`. So they are at the end what they were at
the beginning, whatever the interleaving. -/

namespace Sys2Proof.Machine

/-! ### The outlook of a state -/

/-- What a run that takes all its commands without a fault ends with. -/
structure Outlook where
  wire : List Symbol
  picture : Picture
  inited : Bool

/-- The outlook of a state by the reference: after what is committed, the pictures that the
commands still to come render. -/
def State.outlook (s : State) : Outlook where
  wire := s.committed ++ ((pictureOf s.pb).frames s.commands).flatMap Picture.symbols
  picture := (pictureOf s.pb).final s.commands
  inited := s.inited || s.commands.any isInit

theorem exec_inited {i : Instr} {s t : State} (h : exec i s = .next t) :
    t.inited = (s.inited || isInit i) := by
  obtain ⟨rfl, -, rfl⟩ | ⟨rfl, rfl⟩ | ⟨x, y, r, g, b, rfl, -, ⟨cx, cy, -, rfl⟩ | ⟨-, rfl⟩⟩ |
    ⟨rfl, -, rfl⟩ := exec_cases h
  · exact (Bool.or_true _).symm
  all_goals exact (Bool.or_false _).symm

/-- An accepted command goes from what is to come to what has been. -/
theorem outlook_of_accept {s t : State} {c : HostItem} (hq : s.hostq = c :: t.hostq)
    (he : exec c.instr (s.passTurn.takeCommand t.hostq) = .next t) : t.outlook = s.outlook := by
  have hcommands : s.commands = c.instr :: t.commands := by
    rw [State.commands, hq, List.map_cons, State.commands]
  have hcommitted : t.committed = s.committed ++ if c.instr = .render then frame s.pb else [] :=
    (exec_committed he :)
  have hpicture : pictureOf t.pb = (pictureOf s.pb).stage c.instr := (exec_picture he :)
  have hinited : t.inited = (s.inited || isInit c.instr) := (exec_inited he :)
  have hframe : (if c.instr = .render then frame s.pb else []) =
      (if c.instr = .render then [pictureOf s.pb] else []).flatMap Picture.symbols := by
    split <;> simp [frame_eq_symbols]
  simp only [State.outlook, hcommands, hcommitted, hpicture, hinited, hframe, frames_cons,
    List.flatMap_append, List.append_assoc, List.any_cons, Bool.or_assoc, Picture.final]

theorem step_outlook {s t : State} (hinv : s.Inv) (h : step s = .next t) :
    t.outlook = s.outlook := by
  obtain ⟨c, hq, he⟩ | ⟨hcommitted, hq, hpb, hinit, -⟩ := step_accepts_or_sameProgress hinv h
  · exact outlook_of_accept hq he
  · have hcommands : t.commands = s.commands := by rw [State.commands, State.commands, hq]
    rw [State.outlook, State.outlook, hcommitted, hcommands, hpb, hinit]

/-! ### Runs -/

/-- A run without a fault keeps what every step keeps. -/
theorem after_induction {P : State → Prop} (hstep : ∀ s t, P s → step s = .next t → P t) (n : Nat)
    {s : State} (hs : P s) (hf : (after n s).fault = none) : P (after n s) := by
  induction n generalizing s with
  | zero => exact hs
  | succ n ih =>
    rw [after] at hf ⊢
    cases h : step s with
    | next t =>
      have hadv : advance s = t := by rw [advance, h]
      rw [hadv] at hf ⊢
      exact ih (hstep s t hs h) hf
    | fault f =>
      have hfault : (after n (advance s)).fault = some f := by
        rw [advance_of_step_fault h]
        exact after_fault rfl n
      exact absurd (hf.symm.trans hfault) nofun
    | refused r => exact absurd h (stepIsNeverRefused s r)

theorem after_inv_outlook {s : State} (hinv : s.Inv) (n : Nat) (hf : (after n s).fault = none) :
    (after n s).Inv ∧ (after n s).outlook = s.outlook :=
  after_induction (P := fun t => t.Inv ∧ t.outlook = s.outlook)
    (fun u t ⟨hu, ho⟩ h => ⟨stepKeepsTheInvariant u t hu h, (step_outlook hu h).trans ho⟩)
    n ⟨hinv, rfl⟩ hf

theorem State.quiescent_iff (s : State) :
    s.quiescent = true ↔ s.hostq = [] ∧ s.cpst = .idle ∧ s.txq = [] ∧ s.bcnt = 0 := by
  simp [State.quiescent, and_assoc]

/-- A quiescent state has come to its outlook (R235). -/
theorem outlook_of_quiescent {s : State} (h : s.quiescent = true) :
    s.outlook = ⟨s.wire, pictureOf s.pb, s.inited⟩ := by
  obtain ⟨hq, hc, htxq, hb⟩ := (State.quiescent_iff s).1 h
  have hcommands : s.commands = [] := by rw [State.commands, hq, List.map_nil]
  simp [State.outlook, hcommands, State.committed_of_idle hc, htxq, hb, Picture.frames,
    Picture.final]

/-- What is sent is the beginning of what is to be sent. -/
theorem wire_prefix_outlook (s : State) : s.wire <+: s.outlook.wire := by
  rw [State.outlook, State.committed, List.append_assoc]
  exact List.prefix_append _ _

/-- The outlook of the block after reset is the reference's of its commands. -/
theorem outlook_reset (items : List HostItem) (sched : List Agent) (k : Nat) :
    State.outlook { State.reset with hostq := items, sched := sched, ticks := k } =
      ⟨(Picture.black.frames (items.map HostItem.instr)).flatMap Picture.symbols,
        Picture.black.final (items.map HostItem.instr), (items.map HostItem.instr).any isInit⟩ := by
  rw [← pictureOf_replicate_zero]
  rfl

/-! ### The statements -/

/-- Settles O51: at quiescence the wire and the picture are the outlook, which is that of reset. -/
theorem wireAtQuiescenceIsThePicturesRendered :
    Obligations.WireAtQuiescenceIsThePicturesRendered := by
  intro items sched k n t hf hquiet
  obtain ⟨-, houtlook⟩ := after_inv_outlook (resetSatisfiesTheInvariant.2 items sched k) n hf
  rw [outlook_of_quiescent hquiet, outlook_reset] at houtlook
  injection houtlook with hwire hpicture _
  exact ⟨hwire, hpicture⟩

/-- Settles O52: the wire begins the outlook's, which is that of reset. -/
theorem wireIsAlwaysAPrefixOfThePicturesRendered :
    Obligations.WireIsAlwaysAPrefixOfThePicturesRendered := by
  intro items sched k n t hf
  obtain ⟨-, houtlook⟩ := after_inv_outlook (resetSatisfiesTheInvariant.2 items sched k) n hf
  have hprefix := wire_prefix_outlook t
  rwa [houtlook, outlook_reset] at hprefix

/-- Settles O53: both runs end with the outlook of the state they begin in, which reads no schedule;
the picture determines the buffer. -/
theorem finalWireDoesNotDependOnTheSchedule : Obligations.FinalWireDoesNotDependOnTheSchedule := by
  intro s sched sched' k k' n n' hinv t t' hf hf' hquiet hquiet'
  obtain ⟨ht, houtlook⟩ := after_inv_outlook (hinv.withInputs s.hostq sched k) n hf
  obtain ⟨ht', houtlook'⟩ := after_inv_outlook (hinv.withInputs s.hostq sched' k') n' hf'
  have hsame : t.outlook = t'.outlook := houtlook.trans houtlook'.symm
  rw [outlook_of_quiescent hquiet, outlook_of_quiescent hquiet'] at hsame
  injection hsame with hwire hpicture hinited
  exact ⟨hwire, ht.pb_eq_of_pictureOf_eq ht' hpicture, hinited⟩

end Sys2Proof.Machine
end

section
/-! PROOFS. RENDER's accept step and push step (42_render_transmit.md section 1, R140 to R148), and
which agent takes a step. -/

namespace Sys2Proof.Machine

/-! ### The accept step -/

section

variable {s : State} (hc : s.cpst = .idle)
include hc

theorem exec_render (hi : s.inited = true) : exec .render s = .next s.beginRender :=
  (execRender_eq_next s _).2 ⟨hc, hi, rfl⟩

theorem exec_render_beforeInit (hi : s.inited = false) :
    exec .render s = .fault .renderBeforeInit :=
  (execRender_eq_fault s _).2 ⟨hc, hi, rfl⟩

end

/-- Settles O16: the accept step begins the RENDER and changes nothing else. -/
theorem renderIsAccepted : Obligations.RenderIsAccepted :=
  fun s hc hi => ⟨s.beginRender, exec_render hc hi, rfl, rfl, rfl, rfl⟩

/-- Settles O17: the INIT precondition of RENDER. -/
theorem renderBeforeInitIsUndefined : Obligations.RenderBeforeInitIsUndefined :=
  fun _ hc hi => exec_render_beforeInit hc hi

/-! ### The push step -/

theorem cpStep_of_push {s t : State} (h : s.push = some t) : cpStep s = some (.next t) := by
  obtain ⟨hc, -⟩ := (State.push_eq_some s t).1 h
  exact (cpStep_eq_some s _).2 (.inr ⟨hc, t, h, rfl⟩)

/-- A rendering CP that has no step waits for its push. -/
theorem push_eq_none_of_cpStep {s : State} (hc : s.cpst = .rendering) (h : cpStep s = none) :
    s.push = none := by
  obtain ⟨hidle, -⟩ | ⟨-, hpush⟩ := (cpStep_eq_none s).1 h
  · exact absurd (hc.symm.trans hidle) nofun
  · exact hpush

/-- Settles O18: with room CP's step is the push; on a full queue there is none. -/
theorem pushStepQueuesTheNextSlotOrWaits : Obligations.PushStepQueuesTheNextSlotOrWaits := by
  intro s h hc
  constructor
  · intro hroom
    rw [cpStep_of_push ((State.push_eq_some s _).2 ⟨hc, hroom, h, rfl⟩)]
    simp [State.endPush, State.enqueue, State.slot, transmitWord, hc]
  · intro hfull
    exact (cpStep_eq_none s).2 (.inr ⟨hc, (State.push_eq_none s hc h).2 hfull⟩)

/-- Inside a RENDER a step is the push of the next slot, or it leaves CP as it is. -/
theorem step_of_rendering {s t : State} (hc : s.cpst = .rendering) (h : step s = .next t) :
    (∃ hr : s.ridx < 25,
      t = (s.passTurn.enqueue (transmitWord (s.slot ⟨s.ridx, hr⟩))).endPush) ∨
    (t.cpst = .rendering ∧ t.ridx = s.ridx) := by
  obtain ⟨-, ⟨rfl, -, -⟩ | ⟨hidle, -⟩ | ⟨-, -, hr, rfl⟩ | ⟨-, -, rfl⟩ | ⟨-, -, w, ws, -, rfl⟩⟩ :=
    step_cases h
  · exact .inr ⟨hc, rfl⟩
  · exact absurd (hc.symm.trans hidle) nofun
  · exact .inl ⟨hr, rfl⟩
  · exact .inr ⟨hc, rfl⟩
  · exact .inr ⟨hc, rfl⟩

/-- Settles O19: only a push touches CPST and RIDX, and only that of slot 24 returns CP to IDLE. -/
theorem renderCompletesExactlyAtThe25thPush : Obligations.RenderCompletesExactlyAtThe25thPush := by
  intro s t hc h
  obtain ⟨hr, rfl⟩ | ⟨hstay, hridx⟩ := step_of_rendering hc h
  · by_cases hlast : s.ridx = 24
    · simp [hlast, State.slot, transmitWord]
    · simp [hlast, hc]
  · constructor
    · intro hidle
      exact absurd (hstay.symm.trans hidle) nofun
    · rintro ⟨h24, h25, -⟩
      omega

/-- Settles O43: a RENDER waits only for room, and a full queue is not empty. -/
theorem waitingRenderIsServedByTheSerialiser :
    Obligations.WaitingRenderIsServedByTheSerialiser := by
  intro s hinv hc hwait
  have hfull : Config.queueDepth ≤ s.txq.length :=
    (State.push_eq_none s hc (hinv.rendering hc)).1 (push_eq_none_of_cpStep hc hwait)
  refine ⟨hinv.capacity.antisymm hfull, fun hser => ?_⟩
  obtain hinit | ⟨-, hempty⟩ := (serStep_eq_none s).1 hser
  · exact absurd ((hinv.inited_of_rendering hc).symm.trans hinit) nofun
  · rw [hempty] at hfull
    exact absurd hfull (Nat.not_le.2 queueDepth_pos)

/-! ### The choice of the agent -/

/-- Settles O32: a turn is the step of an agent whose turn it is, or whose fellow has no step. -/
theorem stepTakesTheEnabledAgent : Obligations.StepTakesTheEnabledAgent := by
  constructor
  · intro s t hf hser hturn
    exact step_of_turnStep hf ((turnStep_eq_some s _).2 (.inr ⟨t, hser, rfl, hturn⟩))
  · intro s t hf hpush hturn
    exact step_of_turnStep hf ((turnStep_eq_some s _).2 (.inl ⟨cpStep_of_push hpush, hturn⟩))

theorem State.ended_iff (s : State) :
    s.ended = true ↔ s.quiescent = true ∧ s.fault = none := by
  simp [State.ended]

/-- Settles O42: CP has no command, SER no bit and no word. -/
theorem quiescentStateRests : Obligations.QuiescentStateRests := by
  intro s h
  obtain ⟨hquiet, hf⟩ := (State.ended_iff s).1 h
  obtain ⟨hq, hc, htxq, hb⟩ := (State.quiescent_iff s).1 hquiet
  have hcp : cpStep s = none := (cpStep_eq_none s).2 (.inl ⟨hc, hq⟩)
  have hser : serStep s = none := (serStep_eq_none s).2 (.inr ⟨hb, htxq⟩)
  have hturn : turnStep s = none := (turnStep_eq_none s).2 ⟨hcp, hser⟩
  refine ⟨hcp, hser, ?_⟩
  rw [step_eq_getD hf, hturn, Option.getD_none]

end Sys2Proof.Machine
end

section
/-! PROOFS. The transmit word, the serialiser and the line coder (42_render_transmit.md R145 and
section 2, R149 to R154). -/

namespace Sys2Proof.Machine

/-! ### The transmit word -/

/-- The shift by 8 puts 8 zero bits behind the 24 low bits (R145). -/
theorem transmitWord_eq_append (v : Word) : transmitWord v = v.extractLsb' 0 24 ++ 0x00#8 :=
  BitVec.shiftLeft_eq_concat_of_lt (by decide)

theorem pack_colour (r g b : Chan) : (pack r g b).extractLsb' 0 24 = g ++ r ++ b := by
  have hfields : (pack r g b).extractLsb' 16 8 ++ (pack r g b).extractLsb' 8 8 ++
      (pack r g b).extractLsb' 0 8 = (pack r g b).extractLsb' 0 24 := by
    iterate 2 rw [BitVec.extractLsb'_append_extractLsb'_eq_extractLsb' (by rfl)]
  rw [← hfields, pack_green, pack_red, pack_blue]

/-- Settles O9: the shift by 8 as a concatenation, and the colour word of a packed pixel. -/
theorem transmitWordIsTheColourWordLeftAligned :
    Obligations.TransmitWordIsTheColourWordLeftAligned := by
  refine ⟨fun v _ => transmitWord_eq_append v, fun r g b => ?_⟩
  rw [transmitWord_eq_append, pack_colour]

/-! ### Pull and shift -/

theorem serStep_pull {s : State} (hi : s.inited = true) (hb : s.bcnt = 0) {w : Word}
    {ws : List Word} (hq : s.txq = w :: ws) : serStep s = some (s.loadShifter w ws) :=
  (serStep_eq_some s _).2 ⟨hi, .inr ⟨hb, w, ws, hq, rfl⟩⟩

theorem serStep_shift {s : State} (hi : s.inited = true) (hb : 0 < s.bcnt) :
    serStep s = some s.shift :=
  (serStep_eq_some s _).2 ⟨hi, .inl ⟨hb, rfl⟩⟩

/-- Settles O22: the pull, and the two ways for SER to have no step. -/
theorem serialiserPullsTheHeadOfTheQueue : Obligations.SerialiserPullsTheHeadOfTheQueue :=
  ⟨fun _ _ _ hi hb hq => serStep_pull hi hb hq, fun s hi => (serStep_eq_none s).2 (.inl hi),
    fun s hb hq => (serStep_eq_none s).2 (.inr ⟨hb, hq⟩)⟩

/-- Settles O23: SER's step is the shift. -/
theorem serialiserShiftsOutTheTopBit : Obligations.SerialiserShiftsOutTheTopBit :=
  fun s hi hb => ⟨s.shift, serStep_shift hi hb, rfl, rfl, rfl, rfl⟩

/-- Shifts in a row send the leading symbols of the shift register in order (R150). -/
theorem serRun_shifts {s : State} (hi : s.inited = true) {n : Nat} (hn : n ≤ s.bcnt)
    (h24 : n ≤ 24) :
    ∃ t, serRun n s = some t ∧ t.wire = s.wire ++ leadingSymbols s.osr n ∧
      t.bcnt = s.bcnt - n ∧ t.osr = s.osr <<< n ∧ t.txq = s.txq := by
  induction n generalizing s with
  | zero => exact ⟨s, rfl, by simp, rfl, (BitVec.shiftLeft_zero s.osr).symm, rfl⟩
  | succ n ih =>
    have hle : n ≤ s.shift.bcnt := Nat.le_sub_one_of_lt hn
    obtain ⟨t, hrun, hwire, hbcnt, hosr, htxq⟩ := ih (s := s.shift) hi hle (by omega)
    refine ⟨t, ?_, ?_, ?_, ?_, htxq⟩
    · rw [serRun, serStep_shift hi (by omega), Option.bind_some, hrun]
    · rw [hwire, leadingSymbols_shift s.osr (n + 1) (Nat.succ_pos n) h24]
      simp [State.shift]
    · rw [hbcnt, Nat.add_comm n 1, ← Nat.sub_sub]
      rfl
    · rw [hosr, Nat.add_comm n 1, BitVec.shiftLeft_add]
      rfl

/-- Settles O24: the pull, then 24 shifts, after which the low 8 bits stand at the top. -/
theorem wordIsSentMostSignificantFirstWithoutPadding :
    Obligations.WordIsSentMostSignificantFirstWithoutPadding := by
  intro s w rest hi hb hq
  obtain ⟨t, hrun, hwire, hbcnt, hosr, htxq⟩ :=
    serRun_shifts (s := s.loadShifter w rest) hi (le_refl 24) (le_refl 24)
  refine ⟨t, ?_, hwire, hbcnt, ?_, htxq⟩
  · rw [serRun, serStep_pull hi hb hq, Option.bind_some, hrun]
  · rw [hosr]
    exact BitVec.shiftLeft_eq_concat_of_lt (by decide)

/-- Settles O41: with BCNT > 0 SER's step is the shift, and CP's steps touch none of the three. -/
theorem shiftsOfAWordAreConsecutive : Obligations.ShiftsOfAWordAreConsecutive := by
  intro s t h hb
  obtain ⟨-, ⟨rfl, -, -⟩ | ⟨-, c, rest, -, he⟩ | ⟨-, -, hr, rfl⟩ | ⟨-, -, rfl⟩ | ⟨-, h0, -⟩⟩ :=
    step_cases h
  · exact .inl ⟨rfl, rfl, rfl⟩
  · obtain ⟨-, hosr, hbcnt, hwire, -⟩ := exec_frame he
    exact .inl ⟨hosr, hbcnt, hwire⟩
  · exact .inl ⟨rfl, rfl, rfl⟩
  · exact .inr ⟨rfl, rfl, rfl⟩
  · omega

/-! ### The line coder -/

theorem pulseOf_activeTime (pin rate : Nat) (invert : Bool) (x : Symbol) :
    (pulseOf pin rate invert x).activeTime = if x = .s0 then Config.t0h else Config.t1h := by
  cases x <;> rfl

/-- Settles O25: a pull emits nothing, a shift its symbol with the line coder's pulse for it. -/
theorem everySymbolIsOnePulseOfItsWidth : Obligations.EverySymbolIsOnePulseOfItsWidth := by
  intro s t h
  obtain ⟨-, ⟨-, rfl⟩ | ⟨-, w, ws, -, rfl⟩⟩ := (serStep_eq_some s t).1 h
  · have hperiod := Pulse.activeTime_add_restTime
      (pulseOf s.cfgPin s.cfgRate s.cfgInvert (sym (s.osr.getLsbD 31)))
    exact .inr ⟨_, _, rfl, rfl, rfl, activeLevel_ne_restLevel _, pulseOf_activeTime _ _ _ _,
      hperiod, rfl, hperiod.trans, rfl⟩
  · exact .inl ⟨rfl, rfl, rfl⟩

@[simp] theorem otherLevel_otherLevel (l : Level) : otherLevel (otherLevel l) = l := by
  cases l <;> rfl

/-- Settles O26: the active level is the other one than the rest level, and inversion exchanges
them. -/
theorem inversionExchangesTheLevels : Obligations.InversionExchangesTheLevels := by
  refine ⟨fun v => ?_, rfl⟩
  cases v with
  | false => exact ⟨rfl, otherLevel_otherLevel _⟩
  | true => exact ⟨(otherLevel_otherLevel _).symm, rfl⟩

end Sys2Proof.Machine
end

section
/-! PROOFS. A RENDER in progress returns (R140, R143, R240): inside a RENDER every step does one
unit of the work that is left (R245), so the 25th push comes within it. -/

namespace Sys2Proof.Machine

/-! ### The work of a push, a shift and a pull -/

theorem State.renderWork_of_rendering {s : State} (hc : s.cpst = .rendering) :
    s.renderWork = (25 - s.ridx) * (1 + 1 + 24) := by
  rw [State.renderWork, hc]

theorem State.renderWork_endPush {s : State} (hc : s.cpst = .rendering) :
    s.endPush.renderWork = (25 - (s.ridx + 1)) * (1 + 1 + 24) := by
  by_cases hlast : s.ridx = 24
  · have hidle : s.endPush.cpst = .idle := by simp [hlast]
    rw [State.renderWork, hidle, hlast]
  · rw [State.renderWork_of_rendering (by simp [hlast, hc])]
    rfl

/-- A push leaves a pull and 24 shifts of what it found (R245). -/
theorem State.work_push {s : State} (hc : s.cpst = .rendering) (hr : s.ridx < 25) (w : Word) :
    (s.enqueue w).endPush.work + 1 = s.work := by
  have hcommands : (s.enqueue w).endPush.commands = s.commands := rfl
  have hafter : (s.enqueue w).endPush.renderWork = (25 - (s.ridx + 1)) * (1 + 1 + 24) :=
    State.renderWork_endPush hc
  have hbefore := State.renderWork_of_rendering hc
  simp only [State.work, hcommands, hafter, hbefore, State.endPush_txq, State.enqueue_txq,
    State.endPush_bcnt, State.enqueue_bcnt, List.length_append, List.length_singleton]
  omega

theorem State.work_shift {s : State} (hb : 0 < s.bcnt) : s.shift.work + 1 = s.work := by
  have hcommands : s.shift.commands = s.commands := rfl
  have hrender : s.shift.renderWork = s.renderWork := rfl
  have htxq : s.shift.txq = s.txq := rfl
  have hbcnt : s.shift.bcnt = s.bcnt - 1 := rfl
  rw [State.work, State.work, hcommands, hrender, htxq, hbcnt]
  omega

theorem State.work_loadShifter {s : State} (hb : s.bcnt = 0) {w : Word} {ws : List Word}
    (hq : s.txq = w :: ws) : (s.loadShifter w ws).work + 1 = s.work := by
  have hcommands : (s.loadShifter w ws).commands = s.commands := rfl
  have hrender : (s.loadShifter w ws).renderWork = s.renderWork := rfl
  rw [State.work, State.work, hcommands, hrender, hq, hb]
  simp only [State.loadShifter_txq, State.loadShifter_bcnt, List.length_cons]
  omega

theorem step_work_of_rendering {s t : State} (hinv : s.Inv) (hc : s.cpst = .rendering)
    (h : step s = .next t) : t.work + 1 = s.work := by
  obtain ⟨-, ⟨rfl, hcp, hser⟩ | ⟨hidle, -⟩ | ⟨-, -, hr, rfl⟩ | ⟨-, hb, rfl⟩ |
    ⟨-, hb, w, ws, hq, rfl⟩⟩ := step_cases h
  · obtain ⟨-, hserves⟩ := waitingRenderIsServedByTheSerialiser t hinv hc hcp
    exact absurd hser hserves
  · exact absurd (hc.symm.trans hidle) nofun
  · exact State.work_push (s := s.passTurn) hc hr _
  · exact State.work_shift (s := s.passTurn) hb
  · exact State.work_loadShifter (s := s.passTurn) hb hq

/-! ### The run to the 25th push -/

theorem step_fault_none {s t : State} (h : step s = .next t) : t.fault = none := by
  obtain ⟨hf, ⟨rfl, -, -⟩ | ⟨-, c, rest, -, he⟩ | ⟨-, -, hr, rfl⟩ | ⟨-, -, rfl⟩ |
    ⟨-, -, w, ws, -, rfl⟩⟩ := step_cases h
  case inr.inl =>
    obtain ⟨-, -, -, -, hfault, -⟩ := exec_frame he
    exact hfault.trans hf
  all_goals exact hf

/-- Inside a RENDER a step never faults, since CP takes no command (R60, R206). -/
theorem exists_step_of_rendering {s : State} (hf : s.fault = none) (hc : s.cpst = .rendering) :
    ∃ t, step s = .next t := by
  cases h : step s with
  | next t => exact ⟨t, rfl⟩
  | fault f =>
    obtain hfault | ⟨-, hidle, -⟩ := (step_eq_fault s f).1 h
    · exact absurd (hf.symm.trans hfault) nofun
    · exact absurd (hc.symm.trans hidle) nofun
  | refused r => exact absurd h (stepIsNeverRefused s r)

theorem step_sameProgress_of_rendering {s t : State} (hinv : s.Inv) (hc : s.cpst = .rendering)
    (h : step s = .next t) : s.SameProgress t := by
  obtain ⟨c, -, he⟩ | hsame := step_accepts_or_sameProgress hinv h
  · have hidle : s.cpst = .idle := (exec_idle he :)
    exact absurd (hc.symm.trans hidle) nofun
  · exact hsame

theorem State.SameProgress.trans {s t u : State} (hst : s.SameProgress t)
    (htu : t.SameProgress u) : s.SameProgress u where
  committed := htu.committed.trans hst.committed
  hostq := htu.hostq.trans hst.hostq
  pb := htu.pb.trans hst.pb
  inited := htu.inited.trans hst.inited
  rendering := hst.rendering ∘ htu.rendering

/-- `t` is a state to which a RENDER in progress in `s` has returned (R143). -/
structure State.ReturnedTo (s t : State) : Prop where
  idle : t.cpst = .idle
  ridx : t.ridx = 25
  fault : t.fault = none
  same : s.SameProgress t

/-- The work that is left bounds the steps to the 25th push. -/
theorem render_returns {s : State} (hinv : s.Inv) (hf : s.fault = none) (hc : s.cpst = .rendering) :
    ∃ n ≤ s.work, s.ReturnedTo (after n s) := by
  obtain ⟨t, h⟩ := exists_step_of_rendering hf hc
  have hwork := step_work_of_rendering hinv hc h
  have hsame := step_sameProgress_of_rendering hinv hc h
  have hadv : advance s = t := by rw [advance, h]
  obtain hidle | hrender := t.cpst.idle_or_rendering
  · obtain ⟨-, h25, -⟩ := (renderCompletesExactlyAtThe25thPush s t hc h).1 hidle
    refine ⟨1, by omega, ?_⟩
    rw [after, after, hadv]
    exact ⟨hidle, h25, step_fault_none h, hsame⟩
  · obtain ⟨n, hn, hret⟩ :=
      render_returns (stepKeepsTheInvariant s t hinv h) (step_fault_none h) hrender
    refine ⟨n + 1, by omega, ?_⟩
    rw [after, hadv]
    exact { hret with same := hsame.trans hret.same }
termination_by s.work
decreasing_by omega

/-- Settles O57: the RENDER returns within the work that is left, and nothing else has changed. -/
theorem renderReturns : Obligations.RenderReturns := by
  intro s hinv hf hc
  obtain ⟨n, hn, ⟨hidle, h25, hfault, hsame⟩⟩ := render_returns hinv hf hc
  exact ⟨n, hn, hidle, h25, hfault, hsame.hostq, hsame.pb, hsame.committed⟩

end Sys2Proof.Machine
end

section
/-! PROOFS. What INIT answers at an idle command processor (43_init.md), and the frame of each of
the four commands. -/

namespace Sys2Proof.Machine

/-! ### INIT -/

section

variable {s : State} (hc : s.cpst = .idle)
include hc

theorem exec_init (hi : s.inited = false) : exec .init s = .next s.initialised :=
  (execInit_eq_next s _).2 ⟨hc, hi, rfl⟩

theorem exec_init_twice (hi : s.inited = true) : exec .init s = .fault .initTwice :=
  (execInit_eq_fault s _).2 ⟨hc, hi, rfl⟩

end

/-- Settles O10: the state INIT answers, with the nominal rate and the rest level written out. -/
theorem initConfiguresTheTransmitter : Obligations.InitConfiguresTheTransmitter :=
  fun _ hc hi => exec_init hc hi

/-- Settles O11: the precondition of INIT. -/
theorem secondInitIsUndefined : Obligations.SecondInitIsUndefined :=
  fun _ hc hi => exec_init_twice hc hi

/-! ### Frames -/

/-- SET_PIXEL writes the buffer alone, and there the slot of its coordinates alone (R122, R123). -/
theorem exec_setPixel_frame {s t : State} {x y : Int} {r g b : Chan}
    (h : exec (.setPixel x y r g b) s = .next t) :
    t = { s with pb := t.pb } ∧
      (∀ cx cy : Fin 5, coords? x y = some (cx, cy) →
        ∀ j : Fin 25, j ≠ index cx cy → t.slot j = s.slot j) ∧
      (coords? x y = none → t.pb = s.pb) := by
  obtain ⟨-, -, ⟨cx, cy, hxy, rfl⟩ | ⟨hxy, rfl⟩⟩ := (execSetPixel_eq_next x y r g b s t).1 h
  · refine ⟨rfl, fun cx' cy' hxy' j hj => ?_, fun hnone => ?_⟩
    · obtain ⟨rfl, rfl⟩ : cx = cx' ∧ cy = cy' := by simpa [hxy] using hxy'
      exact s.slot_writeSlot_other (index cx cy) j _ hj
    · exact absurd (hxy.symm.trans hnone) nofun
  · exact ⟨rfl, fun _ _ _ _ _ => rfl, fun _ => rfl⟩

/-- Settles O28: the state each command answers differs from the one before in its own fields. -/
theorem commandsChangeOnlyTheirOwnState : Obligations.CommandsChangeOnlyTheirOwnState := by
  refine ⟨fun s t h => ?init, fun s t h => ?clear, fun s t x y r g b => exec_setPixel_frame,
    fun s t h => ?render⟩
  case init =>
    obtain ⟨-, -, rfl⟩ := (execInit_eq_next s t).1 h
    rfl
  case clear =>
    obtain ⟨-, rfl⟩ := (execClear_eq_next s t).1 h
    rfl
  case render =>
    obtain ⟨-, -, rfl⟩ := (execRender_eq_next s t).1 h
    rfl

end Sys2Proof.Machine
end

section
/-! PROOFS. Undefined commands and commands without a move (60_exceptions.md): which commands fault
and with which reason (R206), and what a command put to a rendering processor answers (R214). -/

namespace Sys2Proof.Machine

/-! ### The commands -/

/-- The undefined commands, each with its reason: U1, U2 and U3 of R206, and no other. -/
theorem exec_eq_fault (i : Instr) (s : State) (f : Fault) :
    exec i s = .fault f ↔ s.cpst = .idle ∧
      ((f = .initTwice ∧ i = .init ∧ s.inited = true) ∨
       (f = .setPixelBeforeInit ∧ (∃ x y r g b, i = .setPixel x y r g b) ∧ s.inited = false) ∨
       (f = .renderBeforeInit ∧ i = .render ∧ s.inited = false)) := by
  cases i with
  | init => exact (execInit_eq_fault s f).trans (by simp [and_comm])
  | clear => exact (iff_false_intro (execClear_ne_fault s f)).trans (by simp)
  | setPixel x y r g b => exact (execSetPixel_eq_fault x y r g b s f).trans (by simp [and_comm])
  | render => exact (execRender_eq_fault s f).trans (by simp [and_comm])

/-- Settles O21: each meaning asks first whether the processor is ready. -/
theorem commandWhileNotReadyHasNoMove : Obligations.CommandWhileNotReadyHasNoMove := by
  intro i s hc
  cases i with
  | init => rw [exec, execInit, whenReady_rendering s _ hc]
  | clear => rw [exec, execClear, whenReady_rendering s _ hc]
  | setPixel x y r g b => rw [exec, execSetPixel, whenReady_rendering s _ hc]
  | render => rw [exec, execRender, whenReady_rendering s _ hc]

/-! ### The step -/

/-- Settles O35: without a fault before it, a step faults as the command CP takes does. -/
theorem stepFaultsExactlyOnTheThreeUndefinedCommands :
    Obligations.StepFaultsExactlyOnTheThreeUndefinedCommands := by
  intro s f hf
  constructor
  · intro h
    obtain hsticky | ⟨-, hc, hturn, c, rest, hq, he⟩ := (step_eq_fault s f).1 h
    · exact absurd (hf.symm.trans hsticky) nofun
    · obtain ⟨-, hundef⟩ := (exec_eq_fault _ _ f).1 he
      exact ⟨hc, hturn, c, rest, hq, hundef⟩
  · rintro ⟨hc, hturn, c, rest, hq, hundef⟩
    have he : exec c.instr (s.passTurn.takeCommand rest) = .fault f :=
      (exec_eq_fault _ _ f).2 ⟨hc, hundef⟩
    exact (step_eq_fault s f).2 (.inr ⟨hf, hc, hturn, c, rest, hq, he⟩)

end Sys2Proof.Machine
end

section
/-! PROOFS. After reset, and progress (70_reset_and_hazards.md R231, R235, R240, R245): outside
quiescence an agent has a step and every step does one unit of the work that is left, so that a run
without a fault comes to quiescence within it. -/

namespace Sys2Proof.Machine

/-- Settles O46: INITED = 0 keeps SER from a step (R149), an empty host list CP. -/
theorem resetLeavesTheBlockIdleAndUndriven : Obligations.ResetLeavesTheBlockIdleAndUndriven :=
  ⟨rfl, (serStep_eq_none _).2 (.inl rfl), (cpStep_eq_none _).2 (.inl ⟨rfl, rfl⟩),
    fun c rest => cpStep_idle _ c rest rfl rfl⟩

/-! ### Where neither agent has a step -/

/-- Only at quiescence has neither agent a step: a RENDER that waits is served by SER (R147), and
before INIT, where SER has no step, nothing is queued or half sent. -/
theorem State.Inv.quiescent_of_no_step {s : State} (hinv : s.Inv) (hcp : cpStep s = none)
    (hser : serStep s = none) : s.quiescent = true := by
  obtain ⟨hc, hq⟩ | ⟨hc, -⟩ := (cpStep_eq_none s).1 hcp
  · obtain hinit | ⟨hb, htxq⟩ := (serStep_eq_none s).1 hser
    · have hbefore := hinv.before hinit
      exact (State.quiescent_iff s).2 ⟨hq, hc, hbefore.queue, hbefore.shifter⟩
    · exact (State.quiescent_iff s).2 ⟨hq, hc, htxq, hb⟩
  · obtain ⟨-, hserves⟩ := waitingRenderIsServedByTheSerialiser s hinv hc hcp
    exact absurd hser hserves

/-- Settles O44: the contrapositive. -/
theorem noReachableStateIsStuck : Obligations.NoReachableStateIsStuck := by
  intro s hinv hquiet
  by_contra! hstuck
  obtain ⟨hcp, hser⟩ := hstuck
  exact absurd (hquiet.symm.trans (hinv.quiescent_of_no_step hcp hser)) nofun

/-! ### The work of a command -/

theorem State.commands_of_hostq {s : State} {c : HostItem} {rest : List HostItem}
    (hq : s.hostq = c :: rest) : s.commands = c.instr :: rest.map HostItem.instr := by
  rw [State.commands, hq, List.map_cons]

theorem State.renderWork_of_idle {s : State} (hc : s.cpst = .idle) : s.renderWork = 0 := by
  rw [State.renderWork, hc]

/-- Taking a command from the host takes its work from what is left. -/
theorem State.work_takeCommand {s : State} {c : HostItem} {rest : List HostItem}
    (hq : s.hostq = c :: rest) : (s.takeCommand rest).work + commandWork c.instr = s.work := by
  have hcommands : (s.takeCommand rest).commands = rest.map HostItem.instr := rfl
  have hrender : (s.takeCommand rest).renderWork = s.renderWork := rfl
  simp only [State.work, State.commands_of_hostq hq, hcommands, hrender, State.takeCommand_txq,
    State.takeCommand_bcnt, List.map_cons, List.sum_cons]
  omega

/-- The work of a command is its accept step and, for RENDER, the pushes, pulls and shifts to come
(R141, R245). -/
theorem exec_renderWork {i : Instr} {s t : State} (h : exec i s = .next t) :
    t.renderWork + 1 = commandWork i := by
  have hidle (hi : i ≠ .render) : t.renderWork = 0 :=
    State.renderWork_of_idle (by rw [exec_cpst h, if_neg hi])
  cases i with
  | init => rw [hidle nofun, commandWork]
  | clear => rw [hidle nofun, commandWork]
  | setPixel x y r g b => rw [hidle nofun, commandWork]
  | render =>
    obtain ⟨-, -, rfl⟩ := (execRender_eq_next s t).1 h
    rfl

theorem exec_work {i : Instr} {s t : State} (h : exec i s = .next t) :
    t.work + 1 = s.work + commandWork i := by
  obtain ⟨htxq, -, hbcnt, -, -, -, hq, -⟩ := exec_frame h
  have hcommands : t.commands = s.commands := by rw [State.commands, State.commands, hq]
  rw [State.work, State.work, hcommands, htxq, hbcnt, State.renderWork_of_idle (exec_idle h),
    ← exec_renderWork h]
  omega

/-- Settles O55: rest is quiescence; every other step takes one from the work that is left. -/
theorem stepDoesOneUnitOfWork : Obligations.StepDoesOneUnitOfWork := by
  intro s t hinv hquiet h
  obtain ⟨-, ⟨rfl, hcp, hser⟩ | ⟨-, c, rest, hq, he⟩ | ⟨hc, -, hr, rfl⟩ | ⟨-, hb, rfl⟩ |
    ⟨-, hb, w, ws, hq, rfl⟩⟩ := step_cases h
  · exact absurd (hquiet.symm.trans (hinv.quiescent_of_no_step hcp hser)) nofun
  · exact (exec_work he).trans (State.work_takeCommand (s := s.passTurn) hq)
  · exact State.work_push (s := s.passTurn) hc hr _
  · exact State.work_shift (s := s.passTurn) hb
  · exact State.work_loadShifter (s := s.passTurn) hb hq

/-! ### Runs to quiescence -/

theorem commandWork_pos (i : Instr) : 0 < commandWork i := by
  cases i <;> simp [commandWork]

/-- No work is left exactly at quiescence (R235, R245). -/
theorem State.Inv.work_eq_zero_iff {s : State} (hinv : s.Inv) :
    s.work = 0 ↔ s.quiescent = true := by
  rw [State.quiescent_iff]
  constructor
  · intro h
    have hq : s.hostq = [] := by
      cases hq : s.hostq with
      | nil => rfl
      | cons c rest =>
        have htake := State.work_takeCommand hq
        have hpos := commandWork_pos c.instr
        omega
    rw [State.work] at h
    have hc : s.cpst = .idle := by
      refine s.cpst.idle_or_rendering.resolve_right fun hc => ?_
      have hr := hinv.rendering hc
      rw [State.renderWork_of_rendering hc] at h
      omega
    exact ⟨hq, hc, List.length_eq_zero_iff.1 (by omega), by omega⟩
  · rintro ⟨hq, hc, htxq, hb⟩
    simp [State.work, State.commands, State.renderWork_of_idle hc, hq, htxq, hb]

theorem after_succ_of_step {s t : State} (h : step s = .next t) (n : Nat) :
    after (n + 1) s = after n t := by
  have hadv : advance s = t := by rw [advance, h]
  rw [after, hadv]

/-- Each step takes one from the work, so that none is left after as many steps as there was. -/
theorem fault_or_quiescent_after_work {s : State} {n : Nat} (hinv : s.Inv) (hn : s.work = n) :
    (after n s).fault ≠ none ∨ (after n s).quiescent = true := by
  induction n generalizing s with
  | zero => exact .inr (hinv.work_eq_zero_iff.1 hn)
  | succ n ih =>
    cases h : step s with
    | next t =>
      have hquiet : s.quiescent = false :=
        Bool.eq_false_iff.2 fun hquiet => by simp [hinv.work_eq_zero_iff.2 hquiet] at hn
      have hwork := stepDoesOneUnitOfWork s t hinv hquiet h
      rw [after_succ_of_step h]
      exact ih (stepKeepsTheInvariant s t hinv h) (by omega)
    | fault f => exact .inl (by simp [faultIsSticky.1 s f n h])
    | refused r => exact absurd h (stepIsNeverRefused s r)

/-- Settles O56: the work that is left is the number of steps to quiescence. -/
theorem runReachesQuiescence : Obligations.RunReachesQuiescence :=
  fun _ hinv _ => fault_or_quiescent_after_work hinv rfl

end Sys2Proof.Machine
end

section
/-! PROOFS. The legal programs (R232). `legalFrom` reads the grammar command by command, with INITED
as it goes; of a state it says whether the commands to come are legal (`State.legal`), which no step
changes and which a step that faults refutes. -/

namespace Sys2Proof.Machine

/-! ### The grammar, command by command -/

/-- The preconditions on INITED of the four commands (R125, R148, R184, and R124 for CLEAR). -/
def permitted (inited : Bool) : Instr → Bool
  | .init => !inited
  | .clear => true
  | .setPixel _ _ _ _ _ => inited
  | .render => inited

/-- Every command meets its precondition, INIT setting INITED for those after it. -/
def legalFrom (inited : Bool) : List Instr → Bool
  | [] => true
  | c :: cs => permitted inited c && legalFrom (inited || isInit c) cs

/-- After INIT there is no other one. -/
theorem legalFrom_true (cs : List Instr) : legalFrom true cs = cs.all (fun d => !isInit d) := by
  induction cs with
  | nil => rfl
  | cons c cs ih =>
    rw [legalFrom, Bool.true_or, ih, List.all_cons]
    cases c <;> rfl

/-- From INITED = 0 it is the grammar of R232. -/
theorem legalFrom_false (cs : List Instr) : legalFrom false cs = legalSequence cs := by
  induction cs with
  | nil => rfl
  | cons c cs ih =>
    cases c with
    | init => exact legalFrom_true cs
    | clear => exact ih
    | setPixel x y r g b => rfl
    | render => rfl

/-! ### The commands -/

theorem permitted_of_exec_next {i : Instr} {s t : State} (h : exec i s = .next t) :
    permitted s.inited i = true := by
  obtain ⟨rfl, hi, -⟩ | ⟨rfl, -⟩ | ⟨x, y, r, g, b, rfl, hi, -⟩ | ⟨rfl, hi, -⟩ := exec_cases h
  · simp [permitted, hi]
  · rfl
  · exact hi
  · exact hi

theorem not_permitted_of_exec_fault {i : Instr} {s : State} {f : Fault}
    (h : exec i s = .fault f) : permitted s.inited i = false := by
  obtain ⟨-, ⟨-, rfl, hi⟩ | ⟨-, ⟨x, y, r, g, b, rfl⟩, hi⟩ | ⟨-, rfl, hi⟩⟩ :=
    (exec_eq_fault i s f).1 h
  · simp [permitted, hi]
  · exact hi
  · exact hi

/-! ### The step -/

/-- The commands a state has still to take are legal in it. -/
def State.legal (s : State) : Bool := legalFrom s.inited s.commands

theorem State.legal_of_hostq {s : State} {c : HostItem} {rest : List HostItem}
    (hq : s.hostq = c :: rest) :
    s.legal = (permitted s.inited c.instr &&
      legalFrom (s.inited || isInit c.instr) (rest.map HostItem.instr)) := by
  rw [State.legal, State.commands_of_hostq hq, legalFrom]

/-- A step takes a command that is permitted, or none. -/
theorem step_legal {s t : State} (h : step s = .next t) : t.legal = s.legal := by
  obtain ⟨-, c, hq, he⟩ | ⟨hq, -, hsame⟩ := step_accepts_or_keeps h
  · have hpermitted : permitted s.inited c.instr = true := (permitted_of_exec_next he :)
    have hinited : t.inited = (s.inited || isInit c.instr) := (exec_inited he :)
    rw [State.legal_of_hostq hq, hpermitted, Bool.true_and, ← hinited]
    rfl
  · rw [State.legal, State.legal, State.commands, State.commands, hq, hsame.inited]

/-- A step that faults takes a command that is not permitted (R206). -/
theorem not_legal_of_step_fault {s : State} {f : Fault} (hf : s.fault = none)
    (h : step s = .fault f) : s.legal = false := by
  obtain hsticky | ⟨-, -, -, c, rest, hq, he⟩ := (step_eq_fault s f).1 h
  · exact absurd (hf.symm.trans hsticky) nofun
  · have hpermitted : permitted s.inited c.instr = false := (not_permitted_of_exec_fault he :)
    rw [State.legal_of_hostq hq, hpermitted, Bool.false_and]

/-! ### Runs -/

theorem after_fault_none_of_legal {s : State} (hf : s.fault = none) (hlegal : s.legal = true)
    (n : Nat) : (after n s).fault = none := by
  induction n generalizing s with
  | zero => exact hf
  | succ n ih =>
    cases h : step s with
    | next t =>
      rw [after_succ_of_step h]
      exact ih (step_fault_none h) ((step_legal h).trans hlegal)
    | fault f => exact absurd (hlegal.symm.trans (not_legal_of_step_fault hf h)) nofun
    | refused r => exact absurd h (stepIsNeverRefused s r)

theorem State.legal_of_quiescent {s : State} (h : s.quiescent = true) : s.legal = true := by
  obtain ⟨hq, -⟩ := (State.quiescent_iff s).1 h
  rw [State.legal, State.commands, hq, List.map_nil, legalFrom]

/-- A run that never faults comes to quiescence (R240), where no command is left to be illegal. -/
theorem legal_of_never_faults {s : State} (hinv : s.Inv) (hf : ∀ n, (after n s).fault = none) :
    s.legal = true := by
  have hquiet : (after s.work s).quiescent = true :=
    (fault_or_quiescent_after_work hinv rfl).resolve_left fun hne => hne (hf _)
  have hsame : (after s.work s).legal = s.legal :=
    after_induction (P := fun t => t.legal = s.legal)
      (fun _ _ hu h => (step_legal h).trans hu) s.work rfl (hf _)
  exact hsame.symm.trans (State.legal_of_quiescent hquiet)

theorem legal_reset (items : List HostItem) (sched : List Agent) (k : Nat) :
    State.legal { State.reset with hostq := items, sched := sched, ticks := k } =
      legalSequence (items.map HostItem.instr) :=
  legalFrom_false _

/-- Settles O58: the legality of the commands to come, which every step keeps, is false before a
fault and true at quiescence. -/
theorem legalProgramsAreExactlyThoseThatNeverFault :
    Obligations.LegalProgramsAreExactlyThoseThatNeverFault := by
  intro items sched k
  rw [← legal_reset items sched k]
  constructor
  · exact legal_of_never_faults (resetSatisfiesTheInvariant.2 items sched k)
  · exact after_fault_none_of_legal rfl

end Sys2Proof.Machine
end
